-- ==== Sys2Proof/Word.lean ====
section
/-! DEFINITION. The words of the part: the byte that crosses its two serial lines, the 32-bit part time of
00_scope 2.3, and the two strap and comparator facts that commands carry. Plain arithmetic only. -/

namespace Sys2Proof

/-- A byte of the host port or of the dock link. -/
abbrev Byte := BitVec 8

/-- Part time (00_scope 2.3): a 32-bit count of milliseconds that wraps; an age is a difference modulo 2^32. -/
abbrev Time := BitVec 32

/-- The role the **ROLE** strap places the part in (00_scope 1.1). -/
inductive Role where
  | handle
  | dock
deriving DecidableEq, Repr

end Sys2Proof
end

