-- ==== Sys2Proof/Syntax.lean ====
section
/-! DEFINITION. The commands of the part: one constructor per row of spec/opcode_table.json, each with the operands its
event brings from outside (a request's fields as they cross the line, a pin's level, converter codes, a frame's payload).
The chapters describe the part one event at a time (00_scope 2.7); a row is such an event. -/

namespace Sys2Proof

/-- The threshold conditions of R56, in the order in which a sweep evaluates them. -/
inductive Threshold where
  | cellOvervolt
  | cellUndervolt
  | packOvertemp
  | bridgeOvertemp
  | tempSensorFault
  | cellImbalance
deriving DecidableEq, Repr

/-- The outcomes of a failed exchange (R147). -/
inductive LinkFailure where
  | contention
  | timeout
  | badCheck
deriving DecidableEq, Repr

/-- The states of the dock's evacuation cycle (R170), as they cross the dock link. -/
inductive EvacState where
  | idle
  | starting
  | running
  | done
  | aborted
deriving DecidableEq, Repr

/-- Why the cycle aborted a run (R170, R173). -/
inductive AbortReason where
  | stopped
  | bagFull
  | fanFault
  | linkSilent
  | stickRemoved
deriving DecidableEq, Repr

/-- Why the dock refused an EVAC_START (R171). -/
inductive EvacRefusal where
  | bagFull
  | notFitted
  | busy
  | inhibited
deriving DecidableEq, Repr

/-- The answer to an EVAC_START (R171): ACCEPTED, or REFUSED with a reason. -/
inductive EvacAnswer where
  | accepted
  | refused (reason : EvacRefusal)
deriving DecidableEq, Repr

/-- The output statuses of R166. -/
inductive OutStatus where
  | off
  | on
  | limited
  | fault
deriving DecidableEq, Repr

/-- The payload of an IDENT response (8.4, R198). -/
structure IdentPayload where
  revision : Byte
  vMaxOut : BitVec 16
  iMaxOut : BitVec 16
  busLimit : BitVec 16
  fitted : Bool
  bagLevel : Byte
  bagFull : Bool
  evac : EvacState
deriving DecidableEq, Repr

/-- The payload of a SETPOINT response (8.4, R198). -/
structure SetpointPayload where
  vLim : BitVec 16
  iLim : BitVec 16
  vOut : BitVec 16
  iOut : BitVec 16
  status : OutStatus
deriving DecidableEq, Repr

/-- The commands. A host request carries its TAG and its payload fields at the widths of R195. -/
inductive Instr where
  /-- POWER_ON_RESET (R188: the supply rises; the straps as sampled). -/
  | powerOnReset (role : Role) (evacFit : Bool)
  /-- BROWN_OUT_RESET (R188: the supply falls below its working limit; the straps as sampled). -/
  | brownOutReset (role : Role) (evacFit : Bool)
  /-- START_UP_COMPLETE (R188, R189: start-up completes; the outcome of the trim check). -/
  | startUpComplete (trimPassed : Bool)
  /-- HOST_FRAME_RECEIVED (R176: the CHECK byte of the frame in the receiver ends). -/
  | hostFrameReceived (check : Byte)
  /-- HOST_FRAME_GAP_TIMEOUT (R176: a gap of more than 5 ms, or (true) a byte whose stop bit reads low). -/
  | hostFrameGapTimeout (lowStop : Bool)
  /-- REPLY_END (R178). -/
  | replyEnd
  /-- IDENTIFY (R184). -/
  | identify (tag : Byte)
  /-- GET_STATUS (R185: the request byte, block selector in bits 0 to 3 and page in bits 4 to 7). -/
  | getStatus (tag : Byte) (selector : Byte)
  /-- FETCH_REPORTS (R183). -/
  | fetchReports (tag : Byte)
  /-- KEEPALIVE (R184). -/
  | keepalive (tag : Byte)
  /-- RUN (R5). -/
  | run (tag : Byte) (mode level : Byte)
  /-- STOP (R6). -/
  | stop (tag : Byte)
  /-- HALT_DRIVE (R26: HALT with target DRIVE). -/
  | haltDrive (tag : Byte)
  /-- HALT_CHARGE (R93, R169: HALT with target CHARGE). -/
  | haltCharge (tag : Byte)
  /-- HALT_SENSING (R114: HALT with target SENSING). -/
  | haltSensing (tag : Byte)
  /-- HALT_DOCK_LINK (R157: HALT with target DOCK_LINK). -/
  | haltDockLink (tag : Byte)
  /-- CONFIGURE_DRIVE (R186, R32, R17). -/
  | configureDrive (tag : Byte) (rejectMs mode threshold : Byte) (pMax vDerate vFloor : BitVec 16)
  /-- SET_LEVEL_ENTRY (R29). -/
  | setLevelEntry (tag : Byte) (level : Byte) (speed : BitVec 32) (pLevel pRef clogRatio : BitVec 16)
  /-- CONFIGURE_PACK (R66). -/
  | configurePack (tag : Byte) (capacity : BitVec 16)
  /-- CONFIGURE_CHARGE (R71). -/
  | configureCharge (tag : Byte) (iCc vCellFull : BitVec 16)
  /-- CONFIGURE_SENSING (R100, R113). -/
  | configureSensing (tag : Byte) (code rejectUs : Byte) (t1 t2 t3 : BitVec 16) (drain charge clock width : Byte) (cover : BitVec 16) (full : Byte)
  /-- REBASE_BIN (R112). -/
  | rebaseBin (tag : Byte)
  /-- CONFIGURE_CHANNEL (R117). -/
  | configureChannel (tag : Byte) (channel clockCode preCode sample gap averaging : Byte)
  /-- CONFIGURE_DOCK (R156). -/
  | configureDock (tag : Byte) (autoEvacuate duration level chargingEnabled : Byte)
  /-- CONFIGURE_SUPPLY (R169). -/
  | configureSupply (tag : Byte) (busLimit iMaxOut : BitVec 16)
  /-- MEASURE (R126). -/
  | measure (tag : Byte) (channel : Byte)
  /-- MEASURE_FRESH (R126). -/
  | measureFresh (tag : Byte) (channel averaging : Byte)
  /-- GET_CONDITIONS (R137). -/
  | getConditions (tag : Byte) (position : Byte)
  /-- ACK_CONDITION (R136). -/
  | ackCondition (tag : Byte) (kind occurrences : Byte)
  /-- SET_WATCH (R141). -/
  | setWatch (tag : Byte) (slot quantity direction : Byte) (threshold : BitVec 24) (hysteresis : BitVec 16)
  /-- CLEAR_WATCH (R141). -/
  | clearWatch (tag : Byte) (slot : Byte)
  /-- GET_WATCHES (R141). -/
  | getWatches (tag : Byte)
  /-- EVACUATE (R152). -/
  | evacuate (tag : Byte)
  /-- CANCEL_EVACUATION (R154). -/
  | cancelEvacuation (tag : Byte)
  /-- SLEEP (R191). -/
  | sleep (tag : Byte)
  /-- RESTART (R188). -/
  | restart (tag : Byte)
  /-- SILENCE_TIMER_EXPIRY (R181). -/
  | silenceTimerExpiry
  /-- TRIGGER_PIN_CHANGE (R3: the level the **TRIG** pin now has). -/
  | triggerPinChange (pressed : Bool)
  /-- TRIGGER_QUALIFIED (R3). -/
  | triggerQualified
  /-- PUMP_SETTLE_EXPIRY (R9: the pump-good indicator and the Hall code as read). -/
  | pumpSettleExpiry (pumpGood : Bool) (hall : BitVec 3)
  /-- CONTROL_PERIOD (R33). -/
  | controlPeriod
  /-- SPIN_UP_TIMEOUT (R12). -/
  | spinUpTimeout
  /-- COAST_TIMER_EXPIRY (R23). -/
  | coastTimerExpiry
  /-- HALL_EDGE (R14, R15: the new code, A, B, C from the most significant bit, and how many counts of the 8 MHz clock from
  now the edge falls). -/
  | hallEdge (code : BitVec 3) (counts : BitVec 3)
  /-- EDGE_TIMEOUT (R16). -/
  | edgeTimeout
  /-- OVERCURRENT_TRIP (R17). -/
  | overcurrentTrip
  /-- OVERCURRENT_LIMIT (R18). -/
  | overcurrentLimit
  /-- PUMP_NOT_GOOD (R19). -/
  | pumpNotGood
  /-- STALE_LIMIT (R20). -/
  | staleLimit
  /-- LOW_SPEED_LIMIT (R13). -/
  | lowSpeedLimit
  /-- DERATED_OUT_LIMIT (R43, R44). -/
  | deratedOutLimit
  /-- CLOG_SUSPECT_LIMIT (R47). -/
  | clogSuspectLimit
  /-- CLOG_CLEAR_LIMIT (R47). -/
  | clogClearLimit
  /-- SWEEP_TIMER_EXPIRY (R50). -/
  | sweepTimerExpiry
  /-- TAP_MISMATCH_LIMIT (R55). -/
  | tapMismatchLimit
  /-- TAP_MATCH_LIMIT (R55). -/
  | tapMatchLimit
  /-- THRESHOLD_PERSISTENCE_MET (R57: the threshold condition concerned). -/
  | thresholdPersistenceMet (threshold : Threshold)
  /-- SENSOR_END_COUNT_LIMIT (R59). -/
  | sensorEndCountLimit
  /-- BUS_LOW_COUNT_LIMIT (R69). -/
  | busLowCountLimit
  /-- TERMINATION_TIME_REACHED (R84). -/
  | terminationTimeReached
  /-- PRECHARGE_TIMER_EXPIRY (R81). -/
  | prechargeTimerExpiry
  /-- TOP_BALANCE_TIMER_EXPIRY (R85). -/
  | topBalanceTimerExpiry
  /-- SESSION_LIMIT_EXPIRY (R87). -/
  | sessionLimitExpiry
  /-- DOCK_STATUS_TIMER_EXPIRY (R79). -/
  | dockStatusTimerExpiry
  /-- RESTART_DELAY_EXPIRY (R93). -/
  | restartDelayExpiry
  /-- IMPACT_PULSE (R94: a rising crossing of the threshold). -/
  | impactPulse
  /-- IMPACT_QUALIFIED (R94: the reject width elapses; whether the comparator is still above the threshold). -/
  | impactQualified (high : Bool)
  /-- IMPACT_DEAD_TIME_END (R94). -/
  | impactDeadTimeEnd
  /-- WINDOW_CLOSE (R96). -/
  | windowClose
  /-- GRADE_RISE (R97). -/
  | gradeRise
  /-- GRADE_FALL (R98). -/
  | gradeFall
  /-- SCAN_TIMER_EXPIRY (R103). -/
  | scanTimerExpiry
  /-- SCAN_COMPLETION (R106, R101: the raw counts in the order E1 to E6, ER, G). -/
  | scanCompletion (raws : Vector (BitVec 16) 8)
  /-- DEBOUNCE_ACCEPTED (R108). -/
  | debounceAccepted
  /-- BIN_ABSENT_LIMIT (R110). -/
  | binAbsentLimit
  /-- BIN_PRESENT_LIMIT (R110). -/
  | binPresentLimit
  /-- POST_EVAC_CHECK (R155). -/
  | postEvacCheck
  /-- CONVERSION_COMPLETION (R124, R118: the raw codes of the averaged conversions, the first N of them used). -/
  | conversionCompletion (codes : Vector (BitVec 12) 8)
  /-- DOCK_COMPARATOR_CHANGE (R143: the comparator level). -/
  | dockComparatorChange (high : Bool)
  /-- DOCKED_QUALIFIED (R145). -/
  | dockedQualified
  /-- UNDOCKED_QUALIFIED (R146). -/
  | undockedQualified
  /-- EXCHANGE_START (R147: how long, in ns, the line still takes to have read high for 2 ms). -/
  | exchangeStart (waitNs : Nat)
  /-- LINK_IDLE_TIMEOUT (R147). -/
  | linkIdleTimeout
  /-- LINK_CONTENTION (R147). -/
  | linkContention
  /-- RESPONSE_TIMEOUT (R147). -/
  | responseTimeout
  /-- LINK_FRAME_GAP_TIMEOUT (R142). -/
  | linkFrameGapTimeout
  /-- LINK_RESPONSE_INVALID (R147, R142: the bytes received; false when a stop bit was low or a gap was too long). -/
  | linkResponseInvalid (frame : List Byte) (framingOk : Bool)
  /-- LINK_FAILURE_LIMIT (R148: the outcome of the third failed exchange). -/
  | linkFailureLimit (outcome : LinkFailure)
  /-- IDENT_RESPONSE (R150). -/
  | identResponse (payload : IdentPayload)
  /-- SETPOINT_RESPONSE (R151). -/
  | setpointResponse (payload : SetpointPayload)
  /-- EVAC_START_RESPONSE (R153). -/
  | evacStartResponse (answer : EvacAnswer)
  /-- EVAC_QUERY_RESPONSE (R153). -/
  | evacQueryResponse (state : EvacState) (elapsed : Byte) (reason : Option AbortReason)
  /-- EVAC_STOP_RESPONSE (R153). -/
  | evacStopResponse (state : EvacState)
  /-- BACKOFF_EXPIRY (R148). -/
  | backoffExpiry
  /-- SETPOINT_POLL_EXPIRY (R149). -/
  | setpointPollExpiry
  /-- EVAC_QUERY_POLL_EXPIRY (R149). -/
  | evacQueryPollExpiry
  /-- FAULT_RETRY_EXPIRY (R148). -/
  | faultRetryExpiry
  /-- DOCK_FRAME_DISCARDED (R159: the bytes received). -/
  | dockFrameDiscarded (frame : List Byte) (framingOk : Bool)
  /-- IDENT_REQUEST (R159). -/
  | identRequest
  /-- SETPOINT_REQUEST (R164). -/
  | setpointRequest (enable : Bool) (vLimit iLimit : BitVec 16)
  /-- EVAC_START_REQUEST (R171). -/
  | evacStartRequest (duration : Byte)
  /-- EVAC_QUERY_REQUEST (R174). -/
  | evacQueryRequest
  /-- EVAC_STOP_REQUEST (R173). -/
  | evacStopRequest
  /-- RESPONSE_SEND_START (R159). -/
  | responseSendStart
  /-- RESPONDER_CONTENTION (R159). -/
  | responderContention
  /-- KEEPALIVE_EXPIRY (R160). -/
  | keepaliveExpiry
  /-- STICK_SENSE_CHANGE (R161: the **STICK_SENSE** level). -/
  | stickSenseChange (high : Bool)
  /-- STICK_PRESENT_QUALIFIED (R161). -/
  | stickPresentQualified
  /-- STICK_ABSENT_QUALIFIED (R161). -/
  | stickAbsentQualified
  /-- OUTPUT_PERIOD (R167). -/
  | outputPeriod
  /-- OUTPUT_STALE_LIMIT (R167). -/
  | outputStaleLimit
  /-- RECOVERY_TIMER_EXPIRY (R168). -/
  | recoveryTimerExpiry
  /-- DURATION_EXPIRY (R172). -/
  | durationExpiry
  /-- HOST_LINE_EDGE (R193). -/
  | hostLineEdge
  /-- FAST_CLOCK_SETTLED (R193). -/
  | fastClockSettled
  /-- HOST_BYTE_RECEIVED (R176). -/
  | hostByteReceived (b : Byte)
  /-- PWM_PERIOD_START (R17, R18). -/
  | pwmPeriodStart
  /-- RESPONSE_START_BIT (R147). -/
  | responseStartBit
deriving DecidableEq, Repr

end Sys2Proof
end

