-- ==== Sys2Proof/Decode.lean ====
section
/-! DEFINITION. The commands that a word spells. spec/opcode_table.json gives its rows no bits: a command is an event at
the part, not a word, so no word spells one. -/

namespace Sys2Proof

/-- The command that the `nbits` bits `w` spell: none, since the table gives no row a bit. -/
def decodeTableWord (_nbits _w : Nat) : Option Instr := none

end Sys2Proof
end

