-- ==== Sys2Proof/Config.lean ====
section
/-! DEFINITION. The free values of the model: constants without a body, for the few values the manual does not state.
Nothing can be proved of them, so a claim holds whatever they are. -/

namespace Sys2Proof.Config

/-- The bytes that fill a 12-byte report record (R197) beyond the data its kind gives: the manual states no value.
The arguments are the model's counter `State.free` and the byte's place among those bytes (log entry 5). -/
opaque reportPad : Nat → Nat → BitVec 8

/-- The bits of a reply's FLAGS byte that R195 does not name (bits 3 to 7), by the same counter (log entry 5). -/
opaque flagsSpare : Nat → BitVec 8

/-- The bits of an occupied watch slot record's first byte that R195 does not name (bits 3 to 7) (log entry 5). -/
opaque slotSpare : Nat → BitVec 8

/-- The n_meas computed from intervals whose sum is 0 (R15 divides by it and states no result), a function of
how many intervals the ring holds (log entry 6). -/
opaque speedOfZeroTurn : Nat → Int

/-- The value of an enumeration (or yes or no) field of a dock response whose code names none of its values: the manual
states no reading. The arguments are the model's counter `State.free` and the field's offset in the payload; the value is
taken modulo the number of values (log entry 24). -/
opaque unnamedCode : Nat → Nat → Nat

end Sys2Proof.Config
end

