-- ==== Sys2Proof/Machine/Types.lean ====
section
/-! DEFINITION. The records the part keeps, block by block, as plain data: every field is one the manual names (or, where
its docstring says so, the model's own). Voltages are mV, currents mA, temperatures tenths of °C, powers W, speeds rpm,
duties per mille, all exact integers (00_scope 2.2, 2.4). A running timer is its deadline in ns of the model's clock, a
stopped timer `none`. -/

namespace Sys2Proof.Machine

/-! ## Sequencer (chapter 6) -/

/-- The 15 channels of R115. -/
inductive Chan where
  | cell1 | cell2 | cell3 | cell4 | cell5 | cell6 | cell7
  | packV | packI | packT | bridgeT | dockV | busV | outI | ref
deriving DecidableEq, Repr

/-- The mark of a thermistor conversion (R120). -/
inductive Mark where
  | none | openCircuit | short
deriving DecidableEq, Repr

/-- A channel's calibration (R116): gain and offset, or a thermistor's nine breakpoints (raw code, temperature). -/
inductive Calibration where
  | linear (gain offset : Int)
  | table (points : List (Nat × Int))
deriving DecidableEq, Repr

/-- The sampling codes of a channel (R116). -/
structure Codes where
  clock : Nat
  pre : Nat
  sample : Nat
  gap : Nat
deriving DecidableEq, Repr

/-- A channel record (R116). -/
structure ChanRec where
  codes : Codes
  averaging : Nat
  cal : Calibration
  value : Int
  raw : Nat
  mark : Mark
  time : Time
  valid : Bool
deriving DecidableEq, Repr

/-- A set of requesters (R121). -/
structure Requesters where
  drive : Bool
  output : Bool
  pack : Bool
  charge : Bool
  dock : Bool
  port : Bool
deriving DecidableEq, Repr

/-- One requester (6.5). -/
inductive Requester where
  | drive | output | pack | charge | dock | port
deriving DecidableEq, Repr

/-- A waiting entry of the queue (R121). -/
structure Entry where
  chan : Chan
  set : Requesters
  cls : Nat
  count : Nat
deriving DecidableEq, Repr

/-- The conversion in flight (R123): its entry, the codes fixed at its start (R118) and when it ends. -/
structure Conversion where
  chan : Chan
  set : Requesters
  count : Nat
  codes : Codes
  endsAt : Nat
deriving DecidableEq, Repr

/-- The measurement sequencer: the channel records in the order of R115, the waiting entries in order of creation, the
conversion in flight, and whether the entries that waited at the entry into standby are still held for the next standby
sweep (R128). -/
structure Sequencer where
  chans : Vector ChanRec 15
  queue : List Entry
  inFlight : Option Conversion
  held : Bool
deriving DecidableEq, Repr

/-! ## Conditions and watches (chapter 7) -/

/-- The 24 condition kinds of R129. -/
inductive CondKind where
  | cellOvervolt | cellUndervolt | cellTapFault | packOvertemp | bridgeOvertemp | tempSensorFault
  | cellImbalance | chargeTemp | chargeFailed | packExhausted | driveOvercurrent | motorStall
  | hallFault | gateSupplyFault | clog | portSilent | binAbsent | binFull | bagFull
  | evacuationIneffective | dockLinkFault | busLow | outputOvervolt | trimInvalid
deriving DecidableEq, Repr

/-- The class of a kind (R134). -/
inductive CondClass where
  | self | latch
deriving DecidableEq, Repr

/-- A detail value (R129, R195). -/
inductive Detail where
  | number (v : Int)
  | cellVolt (cell : Nat) (mv : Int)
  | imbalance (spread : Int) (vmaxCell vminCell : Nat)
  | clog (pMeas pExp : Int)
  | sensor (chan : Chan) (mark : Mark)
  | failure (reason phase : Nat)
deriving DecidableEq, Repr

/-- A condition record (R130). `active` is the state: ACTIVE or, false, ENDED. -/
structure CondRec where
  kind : CondKind
  active : Bool
  first : Time
  last : Time
  occurrences : Nat
  detail : Option Detail
deriving DecidableEq, Repr

/-- A watched quantity (R139). -/
inductive Quantity where
  | chan (c : Chan)
  | minCell | maxCell | soc | pMeas | nMeas | dirtRate
deriving DecidableEq, Repr

/-- A watch (R139). `fired` is its state: FIRED or, false, ARMED. -/
structure Watch where
  quantity : Quantity
  rising : Bool
  threshold : Int
  hysteresis : Int
  fired : Bool
deriving DecidableEq, Repr

/-! ## Suction drive (chapters 1 and 2) -/

/-- The drive states (R2). -/
inductive DriveState where
  | stopped | priming | spinUp | regulate | coasting
deriving DecidableEq, Repr

/-- The suction mode (R1): MANUAL with a level, AUTO with a base level. -/
inductive Mode where
  | manual (level : Nat)
  | auto (base : Nat)
deriving DecidableEq, Repr

/-- The limiting terms of the ceiling (R38). -/
inductive Limit where
  | level | cell | tempPack | tempBridge | clog | bus
deriving DecidableEq, Repr

/-- The stop reasons (R21). -/
inductive StopReason where
  | stopRequested | portSilent | docked | deratedOut | stall | overcurrent | hallFault | pumpFault
  | measureStale | halt | triggerReleased | inhibited | evacComplete | evacStopped | evacBagFull | evacAborted
deriving DecidableEq, Repr

/-- The trigger modes (R4). -/
inductive TriggerMode where
  | hold | latch
deriving DecidableEq, Repr

/-- A motor phase (R14). -/
inductive MotorPhase where
  | a | b | c
deriving DecidableEq, Repr

/-- A bridge state (R14): the phase switched high, the phase held low, the phase left floating. -/
structure BridgeState where
  high : MotorPhase
  low : MotorPhase
  floating : MotorPhase
deriving DecidableEq, Repr

/-- The values the ceiling's terms had when it was last computed (R37 keeps all but P_bus). -/
structure Terms where
  level : Int
  cell : Int
  tempPack : Int
  tempBridge : Int
  clog : Int
deriving DecidableEq, Repr

/-- The drive record (R1), the counts of R43 and R45, and the model's `levelSeen`: the level in use from which n_tgt was
last taken, against which a change of the level in use is told (R31). -/
structure Drive where
  state : DriveState
  mode : Mode
  armed : Bool
  trigPressed : Bool
  trigOn : Bool
  pendingStart : Bool
  nTgt : Int
  nEff : Int
  nMeas : Int
  duty : Int
  pMeas : Int
  pCeil : Int
  limit : Limit
  lastStop : Option StopReason
  runStart : Time
  startCharge : Int
  stale : Nat
  lowSpeed : Nat
  overcurrent : Nat
  derated : Nat
  suspect : Nat
  clear : Nat
  levelSeen : Nat
  terms : Terms
deriving DecidableEq, Repr

/-- The drive's outputs, timers and speed measurement: the rejector's candidate (R3), the pump settle, control period,
spin-up and coast timers (R2), the pump and the bridge, the duty and threshold in force in the PWM period and whether it
tripped (R17), and the interval ring with its reference and edge timeout (R15, R16). -/
structure Motor where
  candidate : Option Nat
  settle : Option Nat
  period : Option Nat
  spinUp : Option Nat
  coast : Option Nat
  pumpOn : Bool
  bridge : Option BridgeState
  pwmDuty : Int
  pwmThreshold : Int
  pwmNext : Option Nat
  tripped : Bool
  refStamp : Option (BitVec 32)
  ring : List Nat
  edge : Option Nat
deriving DecidableEq, Repr

/-- A record of the level table (R28). -/
structure Level where
  speed : Int
  pLevel : Int
  pRef : Int
  clogRatio : Int
deriving DecidableEq, Repr

/-- The settings of CONFIGURE_DRIVE (R186) and the level table (R28). -/
structure DriveCfg where
  rejectMs : Nat
  mode : TriggerMode
  threshold : Int
  pMax : Int
  vDerate : Int
  vFloor : Int
  levels : Vector Level 4
deriving DecidableEq, Repr

/-! ## Pack monitor (chapter 3) -/

/-- The pack record (R53). `packMark` and `bridgeMark` are the marks the thermistor values came with (R49). -/
structure PackRec where
  cells : Vector Int 7
  vmin : Int
  vminCell : Nat
  vmax : Int
  vmaxCell : Nat
  packMv : Int
  packMa : Int
  packT : Int
  bridgeT : Int
  time : Time
  valid : Bool
  packMark : Mark
  bridgeMark : Mark
deriving DecidableEq, Repr

/-- The supply record (R68), with the marks of its thermistor values. -/
structure SupplyRec where
  busMv : Int
  ambientT : Int
  bridgeT : Int
  time : Time
  valid : Bool
  ambientMark : Mark
  bridgeMark : Mark
deriving DecidableEq, Repr

/-- A value delivered to the sweep in flight (R49). -/
structure Delivery where
  chan : Chan
  value : Int
  mark : Mark
deriving DecidableEq, Repr

/-- The raise counts of R57 and the other counts of the monitor (R55, R59, R69). -/
structure PackCounts where
  cellOvervolt : Nat
  cellUndervolt : Nat
  packOvertemp : Nat
  bridgeOvertemp : Nat
  tempSensor : Nat
  cellImbalance : Nat
  mismatch : Nat
  matched : Nat
  sensorEnd : Nat
  busLow : Nat
deriving DecidableEq, Repr

/-- The pack monitor's sweep timer (R50, R51) and sweep in flight (R49): the previous expiry, the period in force, the
next expiry (`none` while reset holds), the values delivered so far, and the counts. -/
structure Monitor where
  lastExpiry : Nat
  periodMs : Nat
  next : Option Nat
  sweep : Option (List Delivery)
  counts : PackCounts
deriving DecidableEq, Repr

/-- Where Q came from (R62). -/
inductive Origin where
  | none | voltage | full | counted
deriving DecidableEq, Repr

/-- The charge counter (R62). -/
structure Counter where
  q : Int
  residual : Int
  soc : Int
  origin : Origin
  capacity : Int
deriving DecidableEq, Repr

/-! ## Charge controller (chapter 4) -/

/-- The session phases (R70). -/
inductive Phase where
  | none | qualify | precharge | constCurrent | constVoltage | topBalance | done | suspended | failed
deriving DecidableEq, Repr

/-- The reasons of SUSPENDED and FAILED (R70). -/
inductive PhaseReason where
  | temp | inhibited | linkLost | prechargeTimeout | timeLimit
deriving DecidableEq, Repr

/-- The dock status: the last SETPOINT response (R70). -/
structure DockStatus where
  vLim : Int
  iLim : Int
  vOut : Int
  iOut : Int
  status : OutStatus
deriving DecidableEq, Repr

/-- The session record (R70). -/
structure Session where
  phase : Phase
  reason : Option PhaseReason
  request : Int
  vLimit : Int
  switchClosed : Bool
  balance : List Nat
  start : Time
  phaseEntry : Time
  precharge : Option Nat
  topBalance : Option Nat
  limit : Option Nat
  termination : Nat
  dock : DockStatus
  dockTimer : Option Nat
  restart : Option Nat
deriving DecidableEq, Repr

/-- The settings of CONFIGURE_CHARGE (R71). -/
structure ChargeCfg where
  iCc : Int
  vCellFull : Int
deriving DecidableEq, Repr

/-! ## Sensing block (chapter 5) -/

/-- The settings of CONFIGURE_SENSING (chapter 5's table). -/
structure SensingCfg where
  code : Nat
  rejectUs : Nat
  t1 : Int
  t2 : Int
  t3 : Int
  drainUs : Nat
  chargeUs : Nat
  clockMhz : Nat
  width : Nat
  cover : Int
  full : Nat
deriving DecidableEq, Repr

/-- The impact counter (R94 to R98): the pulse in qualification, the dead time, the open window and its timer, the ring
of closed windows oldest first, the session impact total, the grade with its counts and the last computed rate. -/
structure Dirt where
  pulse : Option Nat
  dead : Option Nat
  window : Option Nat
  windowTimer : Option Nat
  ring : List Nat
  total : Nat
  grade : Nat
  rise : Nat
  fall : Nat
  rate : Int
deriving DecidableEq, Repr

/-- An electrode record (R105). The records of ER and G use baseline and raw only. -/
structure Electrode where
  baseline : Int
  raw : Int
  delta : Int
  covered : Bool
deriving DecidableEq, Repr

/-- The fill scan in flight (R102): its effective width, when it ends, and whether it is the one that a pending rebase
waits for (R112). -/
structure Scan where
  width : Nat
  endsAt : Nat
  rebase : Bool
deriving DecidableEq, Repr

/-- The fill scanner (R105) with its scan timer (R103): E1 to E6, ER and G at positions 0 to 7. -/
structure Fill where
  electrodes : Vector Electrode 8
  rawLevel : Nat
  debounced : Nat
  candidate : Option Nat
  candCount : Nat
  absent : Nat
  present : Nat
  rebasePending : Bool
  time : Time
  scan : Option Scan
  lastExpiry : Nat
  periodMs : Nat
  next : Option Nat
deriving DecidableEq, Repr

/-! ## Dock link, initiator (chapter 8) -/

/-- The exchanges (8.4), in catalogue order. -/
inductive Exch where
  | ident | setpoint | evacStart | evacQuery | evacStop
deriving DecidableEq, Repr

/-- The link states (R144). -/
inductive LinkState where
  | absent | identifying | linked | fault
deriving DecidableEq, Repr

/-- The outcome of an exchange (R144). -/
inductive LinkOutcome where
  | ok | contention | timeout | badCheck
deriving DecidableEq, Repr

/-- The pending set (R144). -/
structure PendingSet where
  ident : Bool
  setpoint : Bool
  evacStart : Bool
  evacQuery : Bool
  evacStop : Bool
deriving DecidableEq, Repr

/-- The exchange in flight (R147): its kind, its request frame, the enable a SETPOINT carries (R151), the 20 ms limit on
the idle line, the end of the request's last stop bit (`none` while the line does not go idle), and whether the
response's start bit has been seen. -/
structure Exchange where
  kind : Exch
  frame : List Byte
  enable : Bool
  idleLimit : Nat
  sentAt : Option Nat
  receiving : Bool
deriving DecidableEq, Repr

/-- The state of the evacuation record (R144). -/
inductive EvacRecState where
  | none | requested | running
deriving DecidableEq, Repr

/-- The link record (R144) with the docking detection's candidate (R143) and the four link timers. -/
structure Link where
  docked : Bool
  candidate : Option Nat
  dockedTime : Time
  state : LinkState
  failures : Nat
  lastOutcome : LinkOutcome
  exchange : Option Exchange
  pend : PendingSet
  identity : IdentPayload
  contactMv : Int
  evac : EvacRecState
  stopPending : Bool
  readopt : Bool
  lastEvacEnd : Option Time
  postCount : Option Nat
  setpointPoll : Option Nat
  queryPoll : Option Nat
  backoff : Option Nat
  faultRetry : Option Nat
deriving DecidableEq, Repr

/-- The settings of CONFIGURE_DOCK (R156). -/
structure DockCfg where
  autoEvacuate : Bool
  duration : Nat
  level : Nat
  chargingEnabled : Bool
deriving DecidableEq, Repr

/-! ## Dock role: responder, output stage, evacuation cycle (chapters 8 and 9) -/

/-- A response composed by the responder (R159): its frame, when it starts, and whether it is being sent. -/
structure Response where
  frame : List Byte
  startAt : Nat
  sending : Bool
deriving DecidableEq, Repr

/-- A request frame on its way in (R142, R157): none, one that has begun to arrive, or one that HALT DOCK_LINK has
abandoned while it was arriving. -/
inductive Arrival where
  | idle | begun | abandoned
deriving DecidableEq, Repr

/-- The responder (R159 to R161): the keep-alive timer (stopped: the dock is silent), the time of the last valid request,
the frame on its way in, stick presence with its candidate, and the response. -/
structure Responder where
  keepAlive : Option Nat
  lastValid : Option Time
  arrival : Arrival
  present : Bool
  candidate : Option Nat
  response : Option Response
deriving DecidableEq, Repr

/-- The output record (R162) with its two timers (R167, R168). -/
structure Output where
  permission : Bool
  vLim : Int
  iRequested : Int
  iApp : Int
  pAllow : Int
  duty : Int
  status : OutStatus
  vOut : Int
  iOut : Int
  stale : Nat
  busLimit : Int
  iMax : Int
  period : Option Nat
  recovery : Option Nat
deriving DecidableEq, Repr

/-- The evacuation cycle record (R170) with its duration timer. -/
structure Cycle where
  state : EvacState
  reason : Option AbortReason
  duration : Nat
  runningSince : Time
  elapsed : Nat
  timer : Option Nat
deriving DecidableEq, Repr

/-! ## Host port (chapter 10) -/

/-- The kinds of report (R197). -/
inductive ReportKind where
  | started | conditionRaised | conditionEnded | driveState | sessionSummary | chargePhase | dock
  | evacuation | binLevel | dirtGrade | watchFired | measurement | wake
deriving DecidableEq, Repr

/-- A report (R182): kind, sub-code, part time, and the data bytes its kind gives (at most 6). -/
structure Report where
  kind : ReportKind
  sub : Nat
  time : Time
  data : List Byte
deriving DecidableEq, Repr

/-- The receiver (R176): HUNT, LENGTH, or BODY with LEN and the bytes stored so far. -/
inductive Receiver where
  | hunt
  | length
  | body (len : Nat) (bytes : List Byte)
deriving DecidableEq, Repr

/-- A valid frame (R175): LEN, KIND, TAG and payload. -/
structure Frame where
  len : Nat
  kind : Byte
  tag : Byte
  payload : List Byte
deriving DecidableEq, Repr

/-- The reply statuses (R180). -/
inductive Status where
  | ok | okClamped | busy | invalid | refused | notFound | stale | stillActive | queueFull
  | unknownKind | wrongRole
deriving DecidableEq, Repr

/-- A reply (R175, R180): its KIND and TAG bytes, STATUS, the three FLAGS values and the payload. -/
structure Reply where
  kind : Byte
  tag : Byte
  status : Status
  reportsPending : Bool
  overrun : Bool
  role : Role
  payload : List Byte
deriving DecidableEq, Repr

/-- The host port (R176 to R181): the receiver with the time limit on its next byte, the end of the byte
whose start bit fell in standby (R193), the receive buffer, the overrun flag, the reply in progress, the silence timer
and the silent mark. -/
structure Port where
  rx : Receiver
  gap : Option Nat
  wakeByte : Option Nat
  buffer : List Frame
  overrun : Bool
  reply : Option Reply
  silence : Option Nat
  silent : Bool
deriving DecidableEq, Repr

/-! ## Power (chapter 11) -/

/-- The power states (R190, R191) and, before them, the time while reset holds and start-up runs (R188). -/
inductive PowerState where
  | starting | active | standby
deriving DecidableEq, Repr

/-- The fast clock (R190): off, settling until a time, or running. -/
inductive FastClock where
  | off
  | settling (until_ : Nat)
  | running
deriving DecidableEq, Repr

/-- The cause of a start-up (R188). -/
inductive StartCause where
  | powerOn | brownOut | restart
deriving DecidableEq, Repr

/-- The causes of a WAKE report (R191, R193, R197). -/
inductive WakeCause where
  | trigger | docked | undocked | hostLine | sweepCondition | condition
deriving DecidableEq, Repr

/-- A qualified event that waits for the part to be active again (R193). A release is kept behind a waiting press. -/
inductive Waiting where
  | press | release | docked | undocked | hostLine
deriving DecidableEq, Repr

/-- The power record (11.3), the fast clock, the events waiting for a wake, and what start-up recorded (R188, R189). -/
structure Power where
  state : PowerState
  standbyPending : Bool
  standbyTime : Time
  fast : FastClock
  waiting : List Waiting
  cause : StartCause
  trimPassed : Bool
deriving DecidableEq, Repr

/-- The trim record (R189), read-only. -/
structure Trim where
  codes : Vector Codes 15
  averaging : Vector Nat 15
  cal : Vector Calibration 15
  baselines : Vector Int 8
  serial : BitVec 32
  check : BitVec 32
deriving DecidableEq, Repr

/-- The levels of the inputs: the straps **ROLE** and **EVAC_FIT**, which every start-up samples (R188), **TRIG** (true:
the switch is pressed), the Hall code, the contact-voltage comparator and **STICK_SENSE**. -/
structure Pins where
  role : Role
  fit : Bool
  trig : Bool
  hall : BitVec 3
  contact : Bool
  stick : Bool
deriving DecidableEq, Repr

end Sys2Proof.Machine
end

