-- ==== Sys2Proof/Machine/Bytes.lean ====
section
/-! DEFINITION. Fields of frames and records as bytes (00_scope 2.5, R194): little-endian writers and readers, check
bytes, and the one-byte codes of the enumerations in the order in which their defining tables name them. -/

namespace Sys2Proof.Machine

/-! ## Numbers as bytes -/

/-- The byte with value `v` modulo 256. -/
def byteOf (v : Int) : Byte := BitVec.ofInt 8 v

/-- A yes or no value: 0 or 1 (R194). -/
def boolByte (b : Bool) : Byte := if b then 1 else 0

/-- A number in two bytes, least significant first. -/
def le2 (v : Int) : List Byte := [byteOf v, byteOf (v / 256)]

/-- A number in three bytes, least significant first, two's complement. -/
def le3 (v : Int) : List Byte := [byteOf v, byteOf (v / 256), byteOf (v / 65536)]

/-- A number in four bytes, least significant first, two's complement (R194). -/
def le4 (v : Int) : List Byte := [byteOf v, byteOf (v / 256), byteOf (v / 65536), byteOf (v / 16777216)]

/-- A part time in four bytes (R194). -/
def timeBytes (t : Time) : List Byte := le4 t.toNat

/-- The absent value of a four-byte field (R194). -/
def absent4 : List Byte := [0xFF, 0xFF, 0xFF, 0xFF]

/-- A one-byte field that may be absent (R194). -/
def optByte (o : Option Nat) : Byte :=
  match o with
  | none => 0xFF
  | some n => byteOf n

/-- A part time that may be absent (R194). -/
def optTimeBytes (o : Option Time) : List Byte :=
  match o with
  | none => absent4
  | some t => timeBytes t

/-- The byte at offset `i` of a payload. -/
def byteAt (p : List Byte) (i : Nat) : Byte := p.getD i 0

/-- A one-byte number at offset `i`. -/
def num1 (p : List Byte) (i : Nat) : Nat := (byteAt p i).toNat

/-- A two-byte number at offset `i`, unsigned. -/
def num2 (p : List Byte) (i : Nat) : Nat := num1 p i + 256 * num1 p (i + 1)

/-- A two-byte number at offset `i`, signed. -/
def int2 (p : List Byte) (i : Nat) : Int :=
  let v : Int := num2 p i
  if v < 32768 then v else v - 65536

/-- A three-byte number at offset `i`, signed. -/
def int3 (p : List Byte) (i : Nat) : Int :=
  let v : Int := num2 p i + 65536 * num1 p (i + 2)
  if v < 8388608 then v else v - 16777216

/-- A four-byte number at offset `i`, signed. -/
def int4 (p : List Byte) (i : Nat) : Int :=
  let v : Int := num2 p i + 65536 * num2 p (i + 2)
  if v < 2147483648 then v else v - 4294967296

/-- The bytes of a field as a request carries it, least significant first. -/
def bytes2 (v : BitVec 16) : List Byte := le2 v.toNat

/-- The three bytes of a request field. -/
def bytes3 (v : BitVec 24) : List Byte := le3 v.toNat

/-- The four bytes of a request field. -/
def bytes4 (v : BitVec 32) : List Byte := le4 v.toNat

/-- The sum of bytes modulo 256 (R175). -/
def byteSum (l : List Byte) : Byte := l.foldl (· + ·) 0

/-- The exclusive-or of bytes (R142). -/
def byteXor (l : List Byte) : Byte := l.foldl (· ^^^ ·) 0

/-- `v` limited to 0 to `hi`. -/
def saturate (hi v : Int) : Int := if v > hi then hi else if v < 0 then 0 else v

/-! ## Codes of enumerations (R194) -/

/-- The code of a drive state. -/
def DriveState.code (d : DriveState) : Nat :=
  match d with
  | .stopped => 0
  | .priming => 1
  | .spinUp => 2
  | .regulate => 3
  | .coasting => 4

/-- The two bytes of a mode: MANUAL 0 or AUTO 1, then the level or base level (R196). -/
def Mode.bytes (m : Mode) : List Byte :=
  match m with
  | .manual k => [0, byteOf k]
  | .auto b => [1, byteOf b]

/-- The mode byte alone. -/
def Mode.byte (m : Mode) : Byte :=
  match m with
  | .manual _ => 0
  | .auto _ => 1

/-- The code of a limiting term. -/
def Limit.code (l : Limit) : Nat :=
  match l with
  | .level => 0
  | .cell => 1
  | .tempPack => 2
  | .tempBridge => 3
  | .clog => 4
  | .bus => 5

/-- The code of a stop reason (R196). -/
def StopReason.code (r : StopReason) : Nat :=
  match r with
  | .stopRequested => 1
  | .portSilent => 2
  | .docked => 3
  | .deratedOut => 4
  | .stall => 5
  | .overcurrent => 6
  | .hallFault => 7
  | .pumpFault => 8
  | .measureStale => 9
  | .halt => 10
  | .triggerReleased => 11
  | .inhibited => 12
  | .evacComplete => 13
  | .evacStopped => 14
  | .evacBagFull => 15
  | .evacAborted => 16

/-- The code of a trigger mode (R195). -/
def TriggerMode.code (m : TriggerMode) : Nat :=
  match m with
  | .hold => 0
  | .latch => 1

/-- The code of a condition kind (R129). -/
def CondKind.code (k : CondKind) : Nat :=
  match k with
  | .cellOvervolt => 1
  | .cellUndervolt => 2
  | .cellTapFault => 3
  | .packOvertemp => 4
  | .bridgeOvertemp => 5
  | .tempSensorFault => 6
  | .cellImbalance => 7
  | .chargeTemp => 8
  | .chargeFailed => 9
  | .packExhausted => 10
  | .driveOvercurrent => 11
  | .motorStall => 12
  | .hallFault => 13
  | .gateSupplyFault => 14
  | .clog => 15
  | .portSilent => 16
  | .binAbsent => 17
  | .binFull => 18
  | .bagFull => 19
  | .evacuationIneffective => 20
  | .dockLinkFault => 21
  | .busLow => 22
  | .outputOvervolt => 23
  | .trimInvalid => 24

/-- The condition kinds in code order. -/
def CondKind.all : List CondKind :=
  [.cellOvervolt, .cellUndervolt, .cellTapFault, .packOvertemp, .bridgeOvertemp, .tempSensorFault, .cellImbalance,
   .chargeTemp, .chargeFailed, .packExhausted, .driveOvercurrent, .motorStall, .hallFault, .gateSupplyFault, .clog,
   .portSilent, .binAbsent, .binFull, .bagFull, .evacuationIneffective, .dockLinkFault, .busLow, .outputOvervolt,
   .trimInvalid]

/-- The kind a code names, if any (R136). -/
def CondKind.ofCode (n : Nat) : Option CondKind := CondKind.all.find? (fun k => k.code == n)

/-- The channels in the order of R115. -/
def Chan.all : List Chan :=
  [.cell1, .cell2, .cell3, .cell4, .cell5, .cell6, .cell7, .packV, .packI, .packT, .bridgeT, .dockV, .busV, .outI, .ref]

/-- The place of a channel in the table of R115, from 0. -/
def Chan.index (c : Chan) : Fin 15 :=
  match c with
  | .cell1 => 0
  | .cell2 => 1
  | .cell3 => 2
  | .cell4 => 3
  | .cell5 => 4
  | .cell6 => 5
  | .cell7 => 6
  | .packV => 7
  | .packI => 8
  | .packT => 9
  | .bridgeT => 10
  | .dockV => 11
  | .busV => 12
  | .outI => 13
  | .ref => 14

/-- The number of a channel (R115). -/
def Chan.number (c : Chan) : Nat := c.index.val + 1

/-- The channel a number names, if any. -/
def Chan.ofNumber (n : Nat) : Option Chan := Chan.all.find? (fun c => c.number == n)

/-- The code of a watched quantity (R194): a channel number, or 16 to 21. -/
def Quantity.code (q : Quantity) : Nat :=
  match q with
  | .chan c => c.number
  | .minCell => 16
  | .maxCell => 17
  | .soc => 18
  | .pMeas => 19
  | .nMeas => 20
  | .dirtRate => 21

/-- The quantity a code names, if any. -/
def Quantity.ofCode (n : Nat) : Option Quantity :=
  match Chan.ofNumber n with
  | some c => some (.chan c)
  | none => [Quantity.minCell, .maxCell, .soc, .pMeas, .nMeas, .dirtRate].find? (fun q => q.code == n)

/-- The code of a mark (R195): NONE 0, OPEN 1, SHORT 2. -/
def Mark.code (m : Mark) : Nat :=
  match m with
  | .none => 0
  | .openCircuit => 1
  | .short => 2

/-- The code of a charge origin (R62). -/
def Origin.code (o : Origin) : Nat :=
  match o with
  | .none => 0
  | .voltage => 1
  | .full => 2
  | .counted => 3

/-- The code of a phase, in the order of the phase field of R70. -/
def Phase.code (p : Phase) : Nat :=
  match p with
  | .none => 0
  | .qualify => 1
  | .precharge => 2
  | .constCurrent => 3
  | .constVoltage => 4
  | .topBalance => 5
  | .done => 6
  | .suspended => 7
  | .failed => 8

/-- The code of a phase reason in the session record, in the order of R70. -/
def PhaseReason.code (r : PhaseReason) : Nat :=
  match r with
  | .temp => 0
  | .inhibited => 1
  | .linkLost => 2
  | .prechargeTimeout => 3
  | .timeLimit => 4

/-- The code of a reason in the CHARGE_PHASE report (R197): none is 0. -/
def phaseReasonReport (r : Option PhaseReason) : Nat :=
  match r with
  | none => 0
  | some r => r.code + 1

/-- The code of an output status (R198). -/
def outStatusCode (o : OutStatus) : Nat :=
  match o with
  | .off => 0
  | .on => 1
  | .limited => 2
  | .fault => 3

/-- The code of a cycle state (R198). -/
def evacStateCode (e : EvacState) : Nat :=
  match e with
  | .idle => 0
  | .starting => 1
  | .running => 2
  | .done => 3
  | .aborted => 4

/-- The code of an abort reason in the cycle record, in the order of R170. -/
def abortReasonCode (r : AbortReason) : Nat :=
  match r with
  | .stopped => 0
  | .bagFull => 1
  | .fanFault => 2
  | .linkSilent => 3
  | .stickRemoved => 4

/-- An abort reason on the dock link (R198): none is 0. -/
def abortReasonWire (r : Option AbortReason) : Nat :=
  match r with
  | none => 0
  | some r => abortReasonCode r + 1

/-- A refusal reason on the dock link (R198). -/
def evacRefusalWire (r : EvacRefusal) : Nat :=
  match r with
  | .bagFull => 1
  | .notFitted => 2
  | .busy => 3
  | .inhibited => 4

/-- The code of an exchange, in catalogue order. -/
def Exch.code (e : Exch) : Nat :=
  match e with
  | .ident => 0
  | .setpoint => 1
  | .evacStart => 2
  | .evacQuery => 3
  | .evacStop => 4

/-- The KIND byte of an exchange's request (R142). -/
def Exch.kind (e : Exch) : Byte := byteOf (e.code + 1)

/-- The code of a link state (R144). -/
def LinkState.code (l : LinkState) : Nat :=
  match l with
  | .absent => 0
  | .identifying => 1
  | .linked => 2
  | .fault => 3

/-- The code of an exchange outcome (R144). -/
def LinkOutcome.code (o : LinkOutcome) : Nat :=
  match o with
  | .ok => 0
  | .contention => 1
  | .timeout => 2
  | .badCheck => 3

/-- A failed exchange's outcome. -/
def outcomeOf (f : LinkFailure) : LinkOutcome :=
  match f with
  | .contention => .contention
  | .timeout => .timeout
  | .badCheck => .badCheck

/-- The code of the evacuation record's state (R144). -/
def EvacRecState.code (e : EvacRecState) : Nat :=
  match e with
  | .none => 0
  | .requested => 1
  | .running => 2

/-- The code of a status (R195). -/
def Status.code (st : Status) : Nat :=
  match st with
  | .ok => 0
  | .okClamped => 1
  | .busy => 2
  | .invalid => 3
  | .refused => 4
  | .notFound => 5
  | .stale => 6
  | .stillActive => 7
  | .queueFull => 8
  | .unknownKind => 9
  | .wrongRole => 10

/-- The code of a report kind (R197). -/
def ReportKind.code (k : ReportKind) : Nat :=
  match k with
  | .started => 1
  | .conditionRaised => 2
  | .conditionEnded => 3
  | .driveState => 4
  | .sessionSummary => 5
  | .chargePhase => 6
  | .dock => 7
  | .evacuation => 8
  | .binLevel => 9
  | .dirtGrade => 10
  | .watchFired => 11
  | .measurement => 12
  | .wake => 13

/-- The code of a wake cause (R197). -/
def WakeCause.code (c : WakeCause) : Nat :=
  match c with
  | .trigger => 0
  | .docked => 1
  | .undocked => 2
  | .hostLine => 3
  | .sweepCondition => 4
  | .condition => 5

/-- The code of a start-up cause (R197). -/
def StartCause.code (c : StartCause) : Nat :=
  match c with
  | .powerOn => 0
  | .brownOut => 1
  | .restart => 2

/-- The code of a role (R195). -/
def roleCode (r : Role) : Nat :=
  match r with
  | .handle => 0
  | .dock => 1

/-- An averaging count as its two-bit code (R197): 1, 2, 4, 8 as 0 to 3. -/
def averagingCode (n : Nat) : Nat := if n ≥ 8 then 3 else if n ≥ 4 then 2 else if n ≥ 2 then 1 else 0

/-- A detail value in four bytes (R195). -/
def Detail.bytes (d : Detail) : List Byte :=
  match d with
  | .number v => le4 v
  | .cellVolt cell mv => le3 mv ++ [byteOf cell]
  | .imbalance spread vmaxCell vminCell => le2 spread ++ [byteOf vminCell, byteOf vmaxCell]
  | .clog pMeas pExp => le2 pMeas ++ le2 pExp
  | .sensor c m => [byteOf c.number, byteOf m.code, 0, 0]
  | .failure reason phase => [byteOf reason, byteOf phase, 0, 0]

/-- The four bytes of a detail that may be absent (R194). -/
def detailField (d : Option Detail) : List Byte :=
  match d with
  | none => absent4
  | some d => d.bytes

end Sys2Proof.Machine
end

