-- ==== Sys2Proof/Machine/Defaults.lean ====
section
/-! DEFINITION. The value each block takes after power-on reset, brown-out reset and RESTART, and the nominal trim values
of R116 and R189. -/

namespace Sys2Proof.Machine

/-! ## Nominal trim values (R116, R119, R189) -/

/-- The range of a channel (R115). -/
def Chan.range (c : Chan) : Int × Int :=
  match c with
  | .cell1 => (0, 5000)
  | .cell2 => (0, 5000)
  | .cell3 => (0, 5000)
  | .cell4 => (0, 5000)
  | .cell5 => (0, 5000)
  | .cell6 => (0, 5000)
  | .cell7 => (0, 5000)
  | .packV => (0, 32000)
  | .packI => (-8000, 60000)
  | .packT => (-400, 1250)
  | .bridgeT => (-400, 1250)
  | .dockV => (0, 40000)
  | .busV => (0, 40000)
  | .outI => (0, 4000)
  | .ref => (0, 2500)

/-- The nominal breakpoints of R119, for both thermistor channels. -/
def nominalBreakpoints : List (Nat × Int) :=
  [(3900, -400), (3500, -100), (3000, 150), (2400, 350), (1800, 500), (1300, 650), (900, 800), (550, 1000), (250, 1250)]

/-- The nominal calibration of a channel (R116). -/
def nominalCal (c : Chan) : Calibration :=
  match c with
  | .packT => .table nominalBreakpoints
  | .bridgeT => .table nominalBreakpoints
  | _ => .linear (((c.range).2 - (c.range).1) * 65536 / 4095) (c.range).1

/-- The nominal sampling codes (R116). -/
def nominalCodes : Codes := { clock := 0, pre := 1, sample := 3, gap := 2 }

/-- Fifteen values, one per channel. -/
def perChan {α : Type} (f : Chan → α) : Vector α 15 :=
  #v[f .cell1, f .cell2, f .cell3, f .cell4, f .cell5, f .cell6, f .cell7, f .packV, f .packI, f .packT, f .bridgeT,
     f .dockV, f .busV, f .outI, f .ref]

/-- Eight values, one per place. -/
def perEight {α : Type} (f : Fin 8 → α) : Vector α 8 :=
  #v[f 0, f 1, f 2, f 3, f 4, f 5, f 6, f 7]

/-- The nominal electrode baselines (R189). -/
def nominalBaselines : Vector Int 8 :=
  #v[48000, 48000, 48000, 48000, 48000, 48000, 48000, 40000]

/-- The nominal trim values in the form of a trim record. The serial number and the stored check value, which the
manual leaves to the factory, are 0 (DESIGN CHOICE, log entry 3). -/
def nominalTrim : Trim :=
  { codes := perChan (fun _ => nominalCodes)
    averaging := perChan (fun _ => 1)
    cal := perChan nominalCal
    baselines := nominalBaselines
    serial := 0
    check := 0 }

/-- The trim values the blocks load (R189): the record's, or the nominal ones when the check failed. -/
def trimInUse (t : Trim) (passed : Bool) : Trim := if passed then t else nominalTrim

/-! ## Reset values -/

/-- A channel record after reset (R116). -/
def resetChan (t : Trim) (c : Chan) : ChanRec :=
  { codes := t.codes[c.index]
    averaging := t.averaging[c.index]
    cal := t.cal[c.index]
    value := 0
    raw := 0
    mark := .none
    time := 0
    valid := false }

/-- The sequencer after reset (R116, R127). -/
def resetSequencer (t : Trim) : Sequencer :=
  { chans := perChan (resetChan t), queue := [], inFlight := none, held := false }

/-- The drive record after reset (R1). -/
def resetDrive : Drive :=
  { state := .stopped
    mode := .manual 1
    armed := false
    trigPressed := false
    trigOn := false
    pendingStart := false
    nTgt := 0
    nEff := 0
    nMeas := 0
    duty := 0
    pMeas := 0
    pCeil := 0
    limit := .level
    lastStop := none
    runStart := 0
    startCharge := 0
    stale := 0
    lowSpeed := 0
    overcurrent := 0
    derated := 0
    suspect := 0
    clear := 0
    levelSeen := 1
    terms := { level := 0, cell := 0, tempPack := 0, tempBridge := 0, clog := 0 } }

/-- The drive's outputs, timers and ring after reset (R1, R188): pump off, bridge open, ring empty, no reference. -/
def resetMotor : Motor :=
  { candidate := none
    settle := none
    period := none
    spinUp := none
    coast := none
    pumpOn := false
    bridge := none
    pwmDuty := 0
    pwmThreshold := 45
    pwmNext := none
    tripped := false
    refStamp := none
    ring := []
    edge := none }

/-- The level table's defaults (R28). -/
def defaultLevels (r : Role) : Vector Level 4 :=
  match r with
  | .handle =>
    #v[{ speed := 62000, pLevel := 90, pRef := 70, clogRatio := 600 },
       { speed := 85000, pLevel := 180, pRef := 150, clogRatio := 600 },
       { speed := 105000, pLevel := 320, pRef := 280, clogRatio := 600 },
       { speed := 120000, pLevel := 500, pRef := 430, clogRatio := 600 }]
  | .dock =>
    #v[{ speed := 95000, pLevel := 420, pRef := 380, clogRatio := 600 },
       { speed := 95000, pLevel := 420, pRef := 380, clogRatio := 600 },
       { speed := 95000, pLevel := 420, pRef := 380, clogRatio := 600 },
       { speed := 95000, pLevel := 420, pRef := 380, clogRatio := 600 }]

/-- The drive's settings after reset (chapters 1 and 2, R28, R32). -/
def resetDriveCfg (r : Role) : DriveCfg :=
  { rejectMs := 4
    mode := .hold
    threshold := 45
    pMax := 520
    vDerate := 3400
    vFloor := 3000
    levels := defaultLevels r }

/-- The pack record after reset (R53). -/
def resetPackRec : PackRec :=
  { cells := #v[0, 0, 0, 0, 0, 0, 0]
    vmin := 0
    vminCell := 0
    vmax := 0
    vmaxCell := 0
    packMv := 0
    packMa := 0
    packT := 0
    bridgeT := 0
    time := 0
    valid := false
    packMark := .none
    bridgeMark := .none }

/-- The supply record after reset (R68). -/
def resetSupply : SupplyRec :=
  { busMv := 0
    ambientT := 0
    bridgeT := 0
    time := 0
    valid := false
    ambientMark := .none
    bridgeMark := .none }

/-- The monitor's counts after reset (R55, R57, R59, R68). -/
def resetCounts : PackCounts :=
  { cellOvervolt := 0
    cellUndervolt := 0
    packOvertemp := 0
    bridgeOvertemp := 0
    tempSensor := 0
    cellImbalance := 0
    mismatch := 0
    matched := 0
    sensorEnd := 0
    busLow := 0 }

/-- The monitor after reset: no sweep in flight, the timer's first expiry still to come (R50). -/
def resetMonitor : Monitor :=
  { lastExpiry := 0, periodMs := 100, next := none, sweep := none, counts := resetCounts }

/-- The charge counter after reset (R62). -/
def resetCounter : Counter :=
  { q := 0, residual := 0, soc := 0, origin := .none, capacity := 2500 }

/-- The dock status after reset (R70). -/
def resetDockStatus : DockStatus :=
  { vLim := 0, iLim := 0, vOut := 0, iOut := 0, status := .off }

/-- The session record after reset (R70). -/
def resetSession : Session :=
  { phase := .none
    reason := none
    request := 0
    vLimit := 29400
    switchClosed := false
    balance := []
    start := 0
    phaseEntry := 0
    precharge := none
    topBalance := none
    limit := none
    termination := 0
    dock := resetDockStatus
    dockTimer := none
    restart := none }

/-- The charge settings after reset (chapter 4's table). -/
def resetChargeCfg : ChargeCfg := { iCc := 2000, vCellFull := 4200 }

/-- The sensing settings after reset (chapter 5's table). -/
def resetSensingCfg : SensingCfg :=
  { code := 5
    rejectUs := 4
    t1 := 40
    t2 := 150
    t3 := 400
    drainUs := 2
    chargeUs := 20
    clockMhz := 24
    width := 12
    cover := 80
    full := 5 }

/-- The impact counter after reset (R95, R96). The manual gives no reset value for the last computed rate: 0
(DESIGN CHOICE, log entry 4). -/
def resetDirt : Dirt :=
  { pulse := none
    dead := none
    window := none
    windowTimer := none
    ring := []
    total := 0
    grade := 0
    rise := 0
    fall := 0
    rate := 0 }

/-- An electrode record after reset (R105). -/
def resetElectrode (baseline : Int) : Electrode :=
  { baseline := baseline, raw := 0, delta := 0, covered := false }

/-- The fill scanner after reset (R105): no scan in flight, the timer's first expiry still to come (R103). -/
def resetFill (t : Trim) : Fill :=
  { electrodes := perEight (fun i => resetElectrode t.baselines[i])
    rawLevel := 0
    debounced := 0
    candidate := none
    candCount := 0
    absent := 0
    present := 0
    rebasePending := false
    time := 0
    scan := none
    lastExpiry := 0
    periodMs := 1000
    next := none }

/-- No kind pending. -/
def noPending : PendingSet :=
  { ident := false, setpoint := false, evacStart := false, evacQuery := false, evacStop := false }

/-- The dock identity after reset (R144). -/
def resetIdentity : IdentPayload :=
  { revision := 0
    vMaxOut := 0
    iMaxOut := 0
    busLimit := 0
    fitted := false
    bagLevel := 0
    bagFull := false
    evac := .idle }

/-- The link record after reset (R144). -/
def resetLink : Link :=
  { docked := false
    candidate := none
    dockedTime := 0
    state := .absent
    failures := 0
    lastOutcome := .ok
    exchange := none
    pend := noPending
    identity := resetIdentity
    contactMv := 0
    evac := .none
    stopPending := false
    readopt := false
    lastEvacEnd := none
    postCount := none
    setpointPoll := none
    queryPoll := none
    backoff := none
    faultRetry := none }

/-- The settings of CONFIGURE_DOCK after reset (R156). -/
def resetDockCfg : DockCfg :=
  { autoEvacuate := true, duration := 15, level := 4, chargingEnabled := true }

/-- The responder after reset (R160, R161): silent, the stick ABSENT. -/
def resetResponder : Responder :=
  { keepAlive := none, lastValid := none, arrival := .idle, present := false, candidate := none, response := none }

/-- The output record after reset (R162). -/
def resetOutput : Output :=
  { permission := false
    vLim := 0
    iRequested := 0
    iApp := 0
    pAllow := 480
    duty := 0
    status := .off
    vOut := 0
    iOut := 0
    stale := 0
    busLimit := 480
    iMax := 2500
    period := none
    recovery := none }

/-- The evacuation cycle after reset (R170). -/
def resetCycle : Cycle :=
  { state := .idle, reason := none, duration := 0, runningSince := 0, elapsed := 0, timer := none }

/-- The host port after reset (R176, R177): HUNT, an empty buffer, no reply, no overrun. -/
def resetPort : Port :=
  { rx := .hunt
    gap := none
    wakeByte := none
    buffer := []
    overrun := false
    reply := none
    silence := none
    silent := false }

/-- The watch table after reset (R139): eight empty slots. -/
def resetWatches : Vector (Option Watch) 8 := perEight (fun _ => none)

/-- The power record while reset holds and start-up runs (R188): the fast clock starts and settles for 1 ms. -/
def startingPower (cause : StartCause) : Power :=
  { state := .starting
    standbyPending := false
    standbyTime := 0
    fast := .settling 1000000
    waiting := []
    cause := cause
    trimPassed := false }

/-- The levels of the inputs at State.reset: the straps of a stick without an evacuation unit, trigger released, no contact
voltage, no stick, and the Hall code 101 of step 0 (DESIGN CHOICE, log entry 4). -/
def restingPins : Pins := { role := .handle, fit := false, trig := false, hall := 0b101, contact := false, stick := false }

end Sys2Proof.Machine
end

