-- ==== Sys2Proof/Machine/State.lean ====
section
/-! DEFINITION. The state of the part: every record of the manual, the report queue, the model's clock, the model's
counter of free values, and the queue of commands that wait. Plain data. -/

namespace Sys2Proof.Machine

/-- The state. `now` is the model's clock in ns since the last start-up completed (part time is its whole milliseconds,
log entry 1); `free` counts the free values used so far (log entry 5); `pending` is the queue of waiting commands,
first in, first out. -/
structure State where
  now : Nat
  role : Role
  evacFit : Bool
  trim : Trim
  power : Power
  pins : Pins
  drive : Drive
  motor : Motor
  driveCfg : DriveCfg
  pack : PackRec
  supply : SupplyRec
  monitor : Monitor
  counter : Counter
  session : Session
  chargeCfg : ChargeCfg
  output : Output
  sensingCfg : SensingCfg
  dirt : Dirt
  fill : Fill
  seq : Sequencer
  conds : List CondRec
  watches : Vector (Option Watch) 8
  link : Link
  dockCfg : DockCfg
  responder : Responder
  cycle : Cycle
  port : Port
  reports : List Report
  lost : Bool
  free : Nat
  pending : List Instr
deriving DecidableEq, Repr

/-- The faults of the part that stop it: none. The manual gives every event an effect (a fault of the product is a
condition record, chapter 7), so no command ends in a fault. -/
inductive Fault where
deriving DecidableEq, Repr

/-- The refusals of the model. -/
inductive Refusal where
  /-- Raised by exec's arm of a command that has no meaning yet; safe: nothing is claimed of such a command. -/
  | notModelled (mnemonic : String)
deriving DecidableEq, Repr

/-- Every block at its reset value while start-up runs (R188), in role `role` with the strap `evacFit`, after `cause`:
trim-dependent values from `trim` as if its check had passed. The trim record, the input levels, the model's counter
and the waiting commands are kept from before. -/
def State.fresh (cause : StartCause) (role : Role) (evacFit : Bool) (trim : Trim) (pins : Pins) (free : Nat)
    (pending : List Instr) : State :=
  { now := 0
    role := role
    evacFit := evacFit
    trim := trim
    power := startingPower cause
    pins := pins
    drive := resetDrive
    motor := resetMotor
    driveCfg := resetDriveCfg role
    pack := resetPackRec
    supply := resetSupply
    monitor := resetMonitor
    counter := resetCounter
    session := resetSession
    chargeCfg := resetChargeCfg
    output := resetOutput
    sensingCfg := resetSensingCfg
    dirt := resetDirt
    fill := resetFill trim
    seq := resetSequencer trim
    conds := []
    watches := resetWatches
    link := resetLink
    dockCfg := resetDockCfg
    responder := resetResponder
    cycle := resetCycle
    port := resetPort
    reports := []
    lost := false
    free := free
    pending := pending }

/-- The part right after power-on reset (R188), start-up not yet complete: every block at its reset value, in handle role
and with the nominal values as the trim record (DESIGN CHOICE, log entries 3 and 4). START_UP_COMPLETE makes it ACTIVE. -/
def State.reset : State := State.fresh .powerOn .handle false nominalTrim restingPins 0 []

end Sys2Proof.Machine
end

