-- ==== Sys2Proof/Machine/Update.lean ====
section
/-! DEFINITION. One update per field of State: the meanings change a block through these, so that a proof about one block
sees at once that the others are untouched (Laws/State.lean). -/

namespace Sys2Proof.Machine

/-- `s` with `now` replaced. -/
def State.setNow (s : State) (x : Nat) : State := { s with now := x }

/-- `s` with `role` replaced. -/
def State.setRole (s : State) (x : Role) : State := { s with role := x }

/-- `s` with `evacFit` replaced. -/
def State.setEvacFit (s : State) (x : Bool) : State := { s with evacFit := x }

/-- `s` with `trim` replaced. -/
def State.setTrim (s : State) (x : Trim) : State := { s with trim := x }

/-- `s` with `power` replaced. -/
def State.setPower (s : State) (x : Power) : State := { s with power := x }

/-- `s` with `pins` replaced. -/
def State.setPins (s : State) (x : Pins) : State := { s with pins := x }

/-- `s` with `drive` replaced. -/
def State.setDrive (s : State) (x : Drive) : State := { s with drive := x }

/-- `s` with `motor` replaced. -/
def State.setMotor (s : State) (x : Motor) : State := { s with motor := x }

/-- `s` with `driveCfg` replaced. -/
def State.setDriveCfg (s : State) (x : DriveCfg) : State := { s with driveCfg := x }

/-- `s` with `pack` replaced. -/
def State.setPack (s : State) (x : PackRec) : State := { s with pack := x }

/-- `s` with `supply` replaced. -/
def State.setSupply (s : State) (x : SupplyRec) : State := { s with supply := x }

/-- `s` with `monitor` replaced. -/
def State.setMonitor (s : State) (x : Monitor) : State := { s with monitor := x }

/-- `s` with `counter` replaced. -/
def State.setCounter (s : State) (x : Counter) : State := { s with counter := x }

/-- `s` with `session` replaced. -/
def State.setSession (s : State) (x : Session) : State := { s with session := x }

/-- `s` with `chargeCfg` replaced. -/
def State.setChargeCfg (s : State) (x : ChargeCfg) : State := { s with chargeCfg := x }

/-- `s` with `output` replaced. -/
def State.setOutput (s : State) (x : Output) : State := { s with output := x }

/-- `s` with `sensingCfg` replaced. -/
def State.setSensingCfg (s : State) (x : SensingCfg) : State := { s with sensingCfg := x }

/-- `s` with `dirt` replaced. -/
def State.setDirt (s : State) (x : Dirt) : State := { s with dirt := x }

/-- `s` with `fill` replaced. -/
def State.setFill (s : State) (x : Fill) : State := { s with fill := x }

/-- `s` with `seq` replaced. -/
def State.setSeq (s : State) (x : Sequencer) : State := { s with seq := x }

/-- `s` with `conds` replaced. -/
def State.setConds (s : State) (x : List CondRec) : State := { s with conds := x }

/-- `s` with `watches` replaced. -/
def State.setWatches (s : State) (x : Vector (Option Watch) 8) : State := { s with watches := x }

/-- `s` with `link` replaced. -/
def State.setLink (s : State) (x : Link) : State := { s with link := x }

/-- `s` with `dockCfg` replaced. -/
def State.setDockCfg (s : State) (x : DockCfg) : State := { s with dockCfg := x }

/-- `s` with `responder` replaced. -/
def State.setResponder (s : State) (x : Responder) : State := { s with responder := x }

/-- `s` with `cycle` replaced. -/
def State.setCycle (s : State) (x : Cycle) : State := { s with cycle := x }

/-- `s` with `port` replaced. -/
def State.setPort (s : State) (x : Port) : State := { s with port := x }

/-- `s` with `reports` replaced. -/
def State.setReports (s : State) (x : List Report) : State := { s with reports := x }

/-- `s` with `lost` replaced. -/
def State.setLost (s : State) (x : Bool) : State := { s with lost := x }

/-- `s` with `free` replaced. -/
def State.setFree (s : State) (x : Nat) : State := { s with free := x }

/-- `s` with `pending` replaced. -/
def State.setPending (s : State) (x : List Instr) : State := { s with pending := x }

end Sys2Proof.Machine
end

