-- ==== Sys2Proof/Machine/Flags.lean ====
section
/-! DEFINITION. What holds of a state, as the blocks ask it: the class and effects of each condition kind (R129), which
effects hold (R134), the states and phases the rules group by name, and the part's clocks (R190). -/

namespace Sys2Proof.Machine

/-! ## Condition kinds (R129) -/

/-- The class of a kind (R129). -/
def CondKind.cls (k : CondKind) : CondClass :=
  match k with
  | .cellOvervolt => .latch
  | .cellUndervolt => .latch
  | .cellTapFault => .latch
  | .packOvertemp => .self
  | .bridgeOvertemp => .self
  | .tempSensorFault => .latch
  | .cellImbalance => .self
  | .chargeTemp => .self
  | .chargeFailed => .latch
  | .packExhausted => .latch
  | .driveOvercurrent => .latch
  | .motorStall => .latch
  | .hallFault => .latch
  | .gateSupplyFault => .latch
  | .clog => .self
  | .portSilent => .self
  | .binAbsent => .self
  | .binFull => .self
  | .bagFull => .self
  | .evacuationIneffective => .self
  | .dockLinkFault => .self
  | .busLow => .self
  | .outputOvervolt => .latch
  | .trimInvalid => .latch

/-- Whether a kind inhibits the drive (R129). -/
def CondKind.inhibitsDrive (k : CondKind) : Bool :=
  match k with
  | .cellOvervolt => false
  | .cellUndervolt => true
  | .cellTapFault => true
  | .packOvertemp => true
  | .bridgeOvertemp => true
  | .tempSensorFault => true
  | .cellImbalance => false
  | .chargeTemp => false
  | .chargeFailed => false
  | .packExhausted => true
  | .driveOvercurrent => true
  | .motorStall => true
  | .hallFault => true
  | .gateSupplyFault => true
  | .clog => false
  | .portSilent => true
  | .binAbsent => true
  | .binFull => false
  | .bagFull => false
  | .evacuationIneffective => false
  | .dockLinkFault => false
  | .busLow => true
  | .outputOvervolt => false
  | .trimInvalid => true

/-- Whether a kind inhibits charge (R129). -/
def CondKind.inhibitsCharge (k : CondKind) : Bool :=
  match k with
  | .cellOvervolt => true
  | .cellUndervolt => false
  | .cellTapFault => true
  | .packOvertemp => true
  | .bridgeOvertemp => false
  | .tempSensorFault => true
  | .cellImbalance => false
  | .chargeTemp => true
  | .chargeFailed => true
  | .packExhausted => false
  | .driveOvercurrent => false
  | .motorStall => false
  | .hallFault => false
  | .gateSupplyFault => false
  | .clog => false
  | .portSilent => false
  | .binAbsent => false
  | .binFull => false
  | .bagFull => false
  | .evacuationIneffective => false
  | .dockLinkFault => true
  | .busLow => false
  | .outputOvervolt => false
  | .trimInvalid => true

/-- Whether a kind inhibits the output (R129). -/
def CondKind.inhibitsOutput (k : CondKind) : Bool :=
  match k with
  | .tempSensorFault => true
  | .busLow => true
  | .outputOvervolt => true
  | .trimInvalid => true
  | _ => false

/-! ## The condition list (R130, R134) -/

/-- The effect of a record holds (R134): a SELF kind's while ACTIVE, a LATCH kind's while the record exists. -/
def CondRec.holds (r : CondRec) : Bool :=
  match r.kind.cls with
  | .self => r.active
  | .latch => true

/-- The record of a kind, if any. -/
def condOf (s : State) (k : CondKind) : Option CondRec := s.conds.find? (fun r => r.kind == k)

/-- The list holds an ACTIVE record of the kind. -/
def condActive (s : State) (k : CondKind) : Bool :=
  match condOf s k with
  | some r => r.active
  | none => false

/-- The first record in list order whose effect inhibits the drive and holds (R130). -/
def firstInhibit (s : State) : Option CondRec := s.conds.find? (fun r => r.kind.inhibitsDrive && r.holds)

/-- The effect of some drive-inhibiting kind holds. -/
def driveInhibited (s : State) : Bool := s.conds.any (fun r => r.kind.inhibitsDrive && r.holds)

/-- The effect of some charge-inhibiting kind holds. -/
def chargeInhibited (s : State) : Bool := s.conds.any (fun r => r.kind.inhibitsCharge && r.holds)

/-- The effect of some output-inhibiting kind holds. -/
def outputInhibited (s : State) : Bool := s.conds.any (fun r => r.kind.inhibitsOutput && r.holds)

/-! ## Groups of states and phases -/

/-- PRIMING, SPIN_UP and REGULATE: the running states (1.2). -/
def DriveState.running (d : DriveState) : Bool :=
  match d with
  | .stopped => false
  | .priming => true
  | .spinUp => true
  | .regulate => true
  | .coasting => false

/-- SPIN_UP and REGULATE: the states in which the bridge switches (R2). -/
def DriveState.switching (d : DriveState) : Bool :=
  match d with
  | .stopped => false
  | .priming => false
  | .spinUp => true
  | .regulate => true
  | .coasting => false

/-- The charging phases (R74). -/
def Phase.charging (p : Phase) : Bool :=
  match p with
  | .precharge => true
  | .constCurrent => true
  | .constVoltage => true
  | .topBalance => true
  | _ => false

/-- The phases that balance (R91). -/
def Phase.balancing (p : Phase) : Bool :=
  match p with
  | .constVoltage => true
  | .topBalance => true
  | .done => true
  | _ => false

/-- STARTING and RUNNING: a run of the evacuation cycle. -/
def evacLive (e : EvacState) : Bool :=
  match e with
  | .starting => true
  | .running => true
  | _ => false

/-- The reasons that keep armed and pending start (R21). -/
def StopReason.keeps (r : StopReason) : Bool :=
  match r with
  | .triggerReleased => true
  | .inhibited => true
  | _ => false

/-- The reasons the evacuation cycle gives (R21, R27). -/
def StopReason.ofCycle (r : StopReason) : Bool :=
  match r with
  | .evacComplete => true
  | .evacStopped => true
  | .evacBagFull => true
  | .evacAborted => true
  | _ => false

/-- The six valid Hall codes in forward order (R14): the step of a code, if valid. -/
def hallStep (c : BitVec 3) : Option (Fin 6) :=
  if c = 0b101 then some 0
  else if c = 0b100 then some 1
  else if c = 0b110 then some 2
  else if c = 0b010 then some 3
  else if c = 0b011 then some 4
  else if c = 0b001 then some 5
  else none

/-- The code is one of the six valid ones. -/
def hallValid (c : BitVec 3) : Bool := (hallStep c).isSome

/-- The bridge state a step selects (R14). -/
def bridgeOfStep (n : Fin 6) : BridgeState :=
  match n with
  | 0 => { high := .a, low := .b, floating := .c }
  | 1 => { high := .a, low := .c, floating := .b }
  | 2 => { high := .b, low := .c, floating := .a }
  | 3 => { high := .b, low := .a, floating := .c }
  | 4 => { high := .c, low := .a, floating := .b }
  | 5 => { high := .c, low := .b, floating := .a }

/-- The bridge state a Hall code selects, all switches off for an invalid code. -/
def bridgeOfCode (c : BitVec 3) : Option BridgeState :=
  match hallStep c with
  | some n => some (bridgeOfStep n)
  | none => none

/-! ## Clocks (R190) and pins -/

/-- The part is out of reset: start-up has completed (R188). -/
def State.up (s : State) : Bool := s.power.state != .starting

/-- The fast clock is settled and the part is out of reset, so that the mechanisms it times run (R190). -/
def State.fastUp (s : State) : Bool := s.up && (s.power.fast == .running)

/-- The part is ACTIVE. -/
def State.active (s : State) : Bool := s.power.state == .active

/-- The part is in STANDBY. -/
def State.asleep (s : State) : Bool := s.power.state == .standby

/-- The byte on **HP_RX** at this moment began before the receiver ran, in standby: it is not received, even if the fast
clock ran all the time (R193). -/
def byteLost (s : State) : Bool :=
  match s.port.wakeByte with
  | none => false
  | some t => decide (s.now ≤ t)

/-- Part time (00_scope 2.3). -/
def State.partTime (s : State) : Time := BitVec.ofNat 32 (s.now / 1000000)

/-- The age, in ms, of something stamped `t` (00_scope 2.3). -/
def State.age (s : State) (t : Time) : Nat := (s.partTime - t).toNat

/-- **ATTN** is asserted while the report queue holds at least one report (R182); released while reset holds. -/
def State.attn (s : State) : Bool := s.up && !s.reports.isEmpty

/-- The bleed output of a cell is on exactly while the cell is in the balance set (R91, R92). -/
def State.bleedOn (s : State) (cell : Nat) : Bool := s.session.balance.contains cell

/-- The dock is silent: no valid request for 1,000 ms, or none since reset (R160). -/
def State.dockSilent (s : State) : Bool := s.responder.keepAlive.isNone

end Sys2Proof.Machine
end

