-- ==== Sys2Proof/Machine/Ops.lean ====
section
/-! DEFINITION. The operations every block shares: the clock and timers, the report queue (R182), the watch table's
evaluation (R140), the sequencer's queue and arbiter (R118, R121 to R123), and the calibration of a conversion (R119). -/

namespace Sys2Proof.Machine

/-! ## Time -/

/-- Milliseconds in ns. -/
def ms (n : Nat) : Nat := n * 1000000

/-- Microseconds in ns. -/
def us (n : Nat) : Nat := n * 1000

/-- Time runs to `t`, if `t` lies ahead (log entry 1). -/
def State.advanceTo (s : State) (t : Nat) : State := s.setNow (max s.now t)

/-- The deadline `ns` from now. -/
def State.after (s : State) (ns : Nat) : Nat := s.now + ns

/-- The expiry of a timer is taken: time runs to its deadline, and `f` is the event, given the deadline. A stopped timer
has no expiry, and nothing happens (log entry 1). -/
def onExpiry (d : Option Nat) (f : Nat → State → State) (s : State) : State :=
  match d with
  | none => s
  | some t => f t (s.advanceTo t)

/-- The remaining time of a timer in ms, 0xFFFFFFFF when stopped (R194). -/
def State.remaining (s : State) (d : Option Nat) : List Byte :=
  match d with
  | none => absent4
  | some t => le4 ((t - s.now) / 1000000 : Nat)

/-! ## The report queue (R182) -/

/-- A block offers a report: appended while the queue holds fewer than 16, else discarded with the lost flag set. -/
def report (kind : ReportKind) (sub : Nat) (data : List Byte) (s : State) : State :=
  if s.reports.length < 16 then
    s.setReports (s.reports ++ [{ kind := kind, sub := sub, time := s.partTime, data := data }])
  else s.setLost true

/-- Standby pending is cancelled (R191): the part stays ACTIVE and a WAKE report without a standby time names the cause. -/
def cancelStandby (cause : WakeCause) (s : State) : State :=
  if s.power.standbyPending then
    report .wake cause.code absent4 (s.setPower { s.power with standbyPending := false })
  else s

/-! ## Watches (R140) -/

/-- Whether a publication of `q` with value `v` fires the watch in a slot. -/
def watchFires (o : Option Watch) (q : Quantity) (v : Int) : Bool :=
  match o with
  | none => false
  | some w =>
    (w.quantity == q) && !w.fired &&
      (if w.rising then decide (v ≥ w.threshold) else decide (v ≤ w.threshold))

/-- Whether a publication of `q` with value `v` re-arms the watch in a slot. -/
def watchRearms (o : Option Watch) (q : Quantity) (v : Int) : Bool :=
  match o with
  | none => false
  | some w =>
    (w.quantity == q) && w.fired &&
      (if w.rising then decide (v ≤ w.threshold - w.hysteresis) else decide (v ≥ w.threshold + w.hysteresis))

/-- A slot after a publication: one test, the test of its state. -/
def watchAfter (o : Option Watch) (q : Quantity) (v : Int) : Option Watch :=
  match o with
  | none => none
  | some w =>
    if watchFires o q v then some { w with fired := true }
    else if watchRearms o q v then some { w with fired := false }
    else some w

/-- The WATCH_FIRED report of a slot, if it fires. -/
def watchReport (before : Vector (Option Watch) 8) (q : Quantity) (v : Int) (s : State) (i : Fin 8) : State :=
  if watchFires before[i] q v then report .watchFired i.val (byteOf q.code :: le4 v) s else s

/-- A quantity is published: every slot on it is tested in slot order (R140). -/
def publish (q : Quantity) (v : Int) (s : State) : State :=
  let before := s.watches
  let s := s.setWatches (perEight (fun i => watchAfter before[i] q v))
  ([0, 1, 2, 3, 4, 5, 6, 7] : List (Fin 8)).foldl (watchReport before q v) s

/-! ## Requests for conversions (R121 to R123) -/

/-- The priority class of a requester (6.5). -/
def Requester.cls (r : Requester) : Nat :=
  match r with
  | .drive => 0
  | .output => 0
  | .pack => 1
  | .charge => 1
  | .dock => 1
  | .port => 2

/-- The empty set of requesters. -/
def noRequesters : Requesters :=
  { drive := false, output := false, pack := false, charge := false, dock := false, port := false }

/-- The set with a requester added. -/
def Requesters.add (q : Requesters) (r : Requester) : Requesters :=
  match r with
  | .drive => { q with drive := true }
  | .output => { q with output := true }
  | .pack => { q with pack := true }
  | .charge => { q with charge := true }
  | .dock => { q with dock := true }
  | .port => { q with port := true }

/-- The set is PORT alone. -/
def Requesters.portAlone (q : Requesters) : Bool := q == noRequesters.add .port

/-- The converter clock of a clock code in MHz (R116). -/
def clockMhz (code : Nat) : Nat :=
  match code with
  | 0 => 8
  | 1 => 6
  | 2 => 4
  | _ => 3

/-- The clocks before sampling of a pre-delay code (R118). -/
def preClocks (code : Nat) : Nat :=
  match code with
  | 0 => 0
  | 1 => 2
  | 2 => 4
  | _ => 8

/-- The time of one conversion of `n` averaged conversions, in ns (R118). -/
def conversionNs (c : Codes) (n : Nat) : Nat :=
  let clocks := preClocks c.pre + 4 * (c.sample + 1) + (3 + c.gap) + 14
  let mhz := clockMhz c.clock
  n * ((clocks * 1000 + mhz - 1) / mhz + 200)

/-- The record of a channel. -/
def State.chan (s : State) (c : Chan) : ChanRec := s.seq.chans[c.index]

/-- The channel record replaced. -/
def setChan (c : Chan) (r : ChanRec) (s : State) : State :=
  s.setSeq { s.seq with chans := s.seq.chans.set c.index r }

/-- The entry the arbiter chooses: of the most urgent class, the one created earliest (R123). -/
def mostUrgent (q : List Entry) : Option Entry :=
  match q with
  | [] => none
  | e :: rest =>
    match mostUrgent rest with
    | none => some e
    | some x => if e.cls ≤ x.cls then some e else some x

/-- A waiting entry's conversion starts, with its set and count and the channel's codes as stored (R123). -/
def startConversion (e : Entry) (s : State) : State :=
  s.setSeq
    { s.seq with
      queue := s.seq.queue.erase e
      inFlight := some
        { chan := e.chan
          set := e.set
          count := e.count
          codes := (s.chan e.chan).codes
          endsAt := s.after (conversionNs (s.chan e.chan).codes e.count) } }

/-- The entries that waited at the entry into standby wait on for the next standby sweep (R128). -/
def entriesHeld (s : State) : Bool := s.asleep && s.seq.held

/-- The arbiter (R123): with the converter idle and the fast clock settled it starts the chosen entry. In standby it
starts none before the next standby sweep (R128, log entry 13). -/
def arbiter (s : State) : State :=
  if s.seq.inFlight.isNone && s.fastUp && !entriesHeld s then
    match mostUrgent s.seq.queue with
    | some e => startConversion e s
    | none => s
  else s

/-- The waiting entry of a channel, if any. -/
def waitingEntry (s : State) (c : Chan) : Option Entry := s.seq.queue.find? (fun e => e.chan == c)

/-- A request joins an entry of its channel (R121). -/
def joinEntry (c : Chan) (r : Requester) (count : Nat) (e : Entry) : Entry :=
  if e.chan == c then { e with set := e.set.add r, cls := min e.cls r.cls, count := max e.count count } else e

/-- A new entry is appended (R121). -/
def appendEntry (c : Chan) (r : Requester) (count : Nat) (s : State) : State :=
  s.setSeq
    { s.seq with
      queue := s.seq.queue ++ [{ chan := c, set := noRequesters.add r, cls := r.cls, count := count }] }

/-- The most recently created entry whose set is PORT alone (R122). -/
def newestPortAlone (q : List Entry) : Option Entry := q.reverse.find? (fun e => e.set.portAlone)

/-- An entry is displaced: removed, and answered by a MEASUREMENT report with outcome DISPLACED, which carries value 0,
raw_avg 0, mark NONE and the averaging count the entry carried (R122, R197). -/
def displace (e : Entry) (s : State) : State :=
  report .measurement 1 ([byteOf e.chan.number, 0, 0, 0] ++ le2 (16384 * averagingCode e.count : Nat))
    (s.setSeq { s.seq with queue := (s.seq.queue.reverse.erase e).reverse })

/-- A request is placed (R121, R122), with the averaging count it carries; `none` when a PORT request is refused because
the queue is full. The arbiter then starts it if the converter is idle. -/
def place (c : Chan) (r : Requester) (count : Nat) (s : State) : Option State :=
  match waitingEntry s c with
  | some _ => some (arbiter (s.setSeq { s.seq with queue := s.seq.queue.map (joinEntry c r count) }))
  | none =>
    if s.seq.queue.length < 12 then some (arbiter (appendEntry c r count s))
    else if r == .port then none
    else
      match newestPortAlone s.seq.queue with
      | some e => some (arbiter (appendEntry c r count (displace e s)))
      | none => some s

/-- A job requester posts a request with the channel's stored averaging count (R121). -/
def post (r : Requester) (s : State) (c : Chan) : State :=
  (place c r (s.chan c).averaging s).getD s

/-- A job requester posts several channels in order. -/
def postAll (r : Requester) (cs : List Chan) (s : State) : State := cs.foldl (post r) s

/-! ## Calibration (R119, R120) -/

/-- `v` bounded to the closed range `lo` to `hi` (00_scope 2.4). -/
def clampInt (v lo hi : Int) : Int := max lo (min hi v)

/-- A thermistor reading from breakpoints, the raw codes falling (R119): `hot` below the last of them. -/
def interpolate (points : List (Nat × Int)) (raw : Nat) (hot : Int) : Int :=
  match points with
  | [] => hot
  | [(r, t)] => if raw = r then t else hot
  | (r, t) :: (r', t') :: rest =>
    if raw = r then t
    else if raw < r ∧ raw > r' then t + (((r : Int) - raw) * (t' - t)).tdiv ((r : Int) - r')
    else interpolate ((r', t') :: rest) raw hot

/-- The calibrated value of raw_avg, clamped to the channel's range (R119). -/
def calibrate (c : Chan) (cal : Calibration) (raw : Nat) : Int :=
  let v :=
    match cal with
    | .linear gain offset => offset + ((raw : Int) * gain).tdiv 65536
    | .table points =>
      match points with
      | [] => 1250
      | (r, t) :: rest => if raw > r then -400 else interpolate ((r, t) :: rest) raw 1250
  clampInt v (c.range).1 (c.range).2

/-- The two thermistor channels. -/
def Chan.thermistor (c : Chan) : Bool := c == .packT || c == .bridgeT

/-- The mark of a raw_avg (R120): OPEN at 4,050 or more, SHORT at 40 or less, on thermistor channels only. -/
def markOf (c : Chan) (raw : Nat) : Mark :=
  if c.thermistor then
    if raw ≥ 4050 then .openCircuit else if raw ≤ 40 then .short else .none
  else .none

/-- A channel belongs to a role (R115). -/
def Chan.inRole (c : Chan) (r : Role) : Bool :=
  match c with
  | .packV => true
  | .packI => true
  | .packT => true
  | .bridgeT => true
  | .dockV => true
  | .ref => true
  | .busV => r == .dock
  | .outI => r == .dock
  | .cell1 => r == .handle
  | .cell2 => r == .handle
  | .cell3 => r == .handle
  | .cell4 => r == .handle
  | .cell5 => r == .handle
  | .cell6 => r == .handle
  | .cell7 => r == .handle

end Sys2Proof.Machine
end

