-- ==== Sys2Proof/Machine/Demand.lean ====
section
/-! DEFINITION. Suction demand and the power ceiling (chapter 2): the level in use, the terms of the ceiling, measured
power, ramp, duty step and clog arithmetic; and the dock's bus budget and output status (R165, R166). -/

namespace Sys2Proof.Machine

/-- A record of the level table by its number 1 to 4 (R28). -/
def levelRec (s : State) (k : Nat) : Level :=
  if k ≤ 1 then s.driveCfg.levels[0]
  else if k = 2 then s.driveCfg.levels[1]
  else if k = 3 then s.driveCfg.levels[2]
  else s.driveCfg.levels[3]

/-- The boost of a dirt grade (R30). -/
def boost (grade : Nat) : Nat :=
  match grade with
  | 0 => 0
  | 1 => 0
  | 2 => 1
  | _ => 2

/-- The level in use (R30). -/
def levelInUse (s : State) : Nat :=
  match s.role with
  | .dock => s.dockCfg.level
  | .handle =>
    match s.drive.mode with
    | .manual k => k
    | .auto b => min 4 (b + boost s.dirt.grade)

/-- The record of the level in use. -/
def levelUsed (s : State) : Level := levelRec s (levelInUse s)

/-- The record that feeds the ceiling is valid (R38): the pack record, in dock role the supply record. -/
def feedValid (s : State) : Bool :=
  match s.role with
  | .handle => s.pack.valid
  | .dock => s.supply.valid

/-- The pack temperature of the record that feeds the ceiling (R36). -/
def feedPackT (s : State) : Int :=
  match s.role with
  | .handle => s.pack.packT
  | .dock => s.supply.ambientT

/-- The bridge temperature of the record that feeds the ceiling (R36). -/
def feedBridgeT (s : State) : Int :=
  match s.role with
  | .handle => s.pack.bridgeT
  | .dock => s.supply.bridgeT

/-- P_cell (R35). -/
def cellTerm (pMax vDerate vFloor vmin : Int) : Int :=
  if vmin ≥ vDerate then pMax
  else if vmin ≤ vFloor then 0
  else (pMax * (vmin - vFloor)).tdiv (vDerate - vFloor)

/-- A temperature term (R36): full at or below `lo`, 0 at or above `lo + 150`. -/
def tempTerm (pMax lo t : Int) : Int :=
  if t ≤ lo then pMax
  else if t ≥ lo + 150 then 0
  else (pMax * (lo + 150 - t)).tdiv 150

/-- P_clog (R34). -/
def clogTerm (s : State) : Int :=
  let p := (levelUsed s).pLevel
  if condActive s .clog then p.tdiv 2 else p

/-- The terms of the ceiling as the state stands (R34 to R36, R38): while the feeding record is not valid its terms are
0. -/
def termsNow (s : State) : Terms :=
  { level := (levelUsed s).pLevel
    cell :=
      if feedValid s then cellTerm s.driveCfg.pMax s.driveCfg.vDerate s.driveCfg.vFloor s.pack.vmin else 0
    tempPack := if feedValid s then tempTerm s.driveCfg.pMax 550 (feedPackT s) else 0
    tempBridge := if feedValid s then tempTerm s.driveCfg.pMax 850 (feedBridgeT s) else 0
    clog := clogTerm s }

/-- The terms that apply to the role, in reporting order (R38). -/
def termList (role : Role) (t : Terms) (bus : Int) : List (Int × Limit) :=
  match role with
  | .handle =>
    [(t.level, .level), (t.cell, .cell), (t.tempPack, .tempPack), (t.tempBridge, .tempBridge), (t.clog, .clog)]
  | .dock =>
    [(t.level, .level), (t.tempPack, .tempPack), (t.tempBridge, .tempBridge), (t.clog, .clog), (bus, .bus)]

/-- The least term and the first to have that value (R38). -/
def leastTerm (best : Int × Limit) (l : List (Int × Limit)) : Int × Limit :=
  match l with
  | [] => best
  | x :: rest => leastTerm (if x.1 < best.1 then x else best) rest

/-- P_ceil and the limiting term from given terms (R38). -/
def ceilingOf (role : Role) (t : Terms) (bus : Int) : Int × Limit :=
  leastTerm (t.level, .level) (termList role t bus)

/-- The drive record with its ceiling recomputed from given terms. -/
def setCeiling (t : Terms) (s : State) : State :=
  let c := ceilingOf s.role t s.output.busLimit
  s.setDrive { s.drive with pCeil := c.1, limit := c.2, terms := t }

/-- P_meas (R39). -/
def measuredPower (packV packI : Int) : Int := (packV * max packI 0).tdiv 1000000

/-- The ramp of n_eff toward n_tgt (R40). -/
def ramp (nEff nTgt : Int) : Int :=
  if nEff < nTgt then min (nEff + 400) nTgt
  else if nEff > nTgt then max (nEff - 400) nTgt
  else nEff

/-- The duty step ΔD (R41). -/
def dutyStep (pMeas pCeil nEff nMeas : Int) : Int :=
  if pMeas > pCeil then -(min 40 (max 1 ((pMeas - pCeil).tdiv 4)))
  else
    let d := clampInt ((nEff - nMeas).tdiv 250) (-20) 20
    if d > 0 ∧ pMeas ≥ pCeil - 5 then 0 else d

/-- The new duty (R42). -/
def newDuty (duty step : Int) : Int := clampInt (duty + step) 40 980

/-- The speed ratio r in per mille (R46). -/
def speedRatio (nMeas nRef : Int) : Int := min 1500 ((nMeas * 1000).tdiv nRef)

/-- The expected open-intake power P_exp (R46). -/
def expectedPower (pRef r : Int) : Int := (pRef * (r * r * r)).tdiv 1000000000

/-- The P_exp of the present period (R46). -/
def expectedNow (s : State) : Int :=
  expectedPower (levelUsed s).pRef (speedRatio s.drive.nMeas (levelUsed s).speed)

/-- The present period is suspect (R46). -/
def suspectNow (s : State) : Bool :=
  decide (s.drive.pMeas * 1000 < expectedNow s * (levelUsed s).clogRatio)

/-- The present period is clear (R46). -/
def clearNow (s : State) : Bool :=
  decide (s.drive.pMeas * 1000 ≥ expectedNow s * ((levelUsed s).clogRatio + 100))

/-- Both channel records of the drive are valid and younger than 10 ms (R20). -/
def driveFresh (s : State) : Bool :=
  (s.chan .packV).valid && (s.chan .packI).valid &&
    decide (s.age (s.chan .packV).time < 10) && decide (s.age (s.chan .packI).time < 10)

/-! ## The dock's budget (R165, R166) -/

/-- The fan ceiling (R27): P_ceil while the fan runs, 0 while it is STOPPED or COASTING. -/
def fanCeiling (s : State) : Int := if s.drive.state.running then s.drive.pCeil else 0

/-- The applied current (R165). -/
def appliedCurrent (iRequested iMax pAllow vLim : Int) : Int :=
  if vLim = 0 then 0 else min iRequested (min iMax ((pAllow * 1000000).tdiv vLim))

/-- The output status: the first line of R166 that applies. -/
def outStatus (s : State) : OutStatus :=
  if outputInhibited s then .fault
  else if !s.output.permission then .off
  else if s.output.iApp < s.output.iRequested then .limited
  else .on

/-- The status recomputed (R166); the output record belongs to the dock role (R162). -/
def refreshStatus (s : State) : State :=
  match s.role with
  | .handle => s
  | .dock => s.setOutput { s.output with status := outStatus s }

/-- P_allow, I_app and the status recomputed (R165, R166). -/
def budget (s : State) : State :=
  match s.role with
  | .handle => s
  | .dock =>
    let pAllow := s.output.busLimit - fanCeiling s
    refreshStatus
      (s.setOutput
        { s.output with
          pAllow := pAllow
          iApp := appliedCurrent s.output.iRequested s.output.iMax pAllow s.output.vLim })

/-- Permission is withdrawn (R163): D_out becomes 0, the output period timer stops, the stale count becomes 0, and the
status is recomputed. -/
def withdraw (s : State) : State :=
  match s.role with
  | .handle => s
  | .dock =>
    refreshStatus (s.setOutput { s.output with permission := false, duty := 0, period := none, stale := 0 })

end Sys2Proof.Machine
end

