-- ==== Sys2Proof/Machine/Reactions.lean ====
section
/-! DEFINITION. The operations that reach several blocks in one event: sweep and scan starts and their periods (R49 to R52,
R102, R103), the stop of the drive (R22), the abort of an evacuation (R173), a change of charge phase (R74), raises and
ends of conditions with their reactions (R131 to R135), the start of the drive (R8) and the end of its coast (R23). -/

namespace Sys2Proof.Machine

/-! ## Sweeps (R49 to R52, R68) -/

/-- The sweep period of the part's state in ms (R50, R68). -/
def sweepPeriodMs (s : State) : Nat :=
  match s.role with
  | .dock => 100
  | .handle =>
    if s.asleep then 2000
    else if s.drive.state != .stopped || s.session.phase.charging then 20
    else 100

/-- The channels of a sweep (R49, R68). -/
def sweepChans (r : Role) : List Chan :=
  match r with
  | .handle => [.cell1, .cell2, .cell3, .cell4, .cell5, .cell6, .cell7, .packV, .packI, .packT, .bridgeT]
  | .dock => [.busV, .bridgeT, .packT]

/-- The fast clock is started for a sweep or a wake, if it is off: 1 ms of settle (R190, R192, R193). -/
def wakeFastClock (s : State) : State :=
  if s.power.fast == .off then s.setPower { s.power with fast := .settling (s.after (ms 1)) } else s

/-- What a sweep's start marks (R49, R52): the sweep in flight, the balance set empty, and the entries held since the entry
into standby released (R128). -/
def markSweep (s : State) : State :=
  let s := s.setSession { s.session with balance := [] }
  let s := s.setSeq { s.seq with held := false }
  s.setMonitor { s.monitor with sweep := some [] }

/-- A sweep starts (R49, R52): it is marked, the fast clock is started if it is off, and the requests are posted. -/
def startSweep (s : State) : State :=
  let s := markSweep s
  postAll .pack (sweepChans s.role) (wakeFastClock s)

/-- An expiry of the sweep timer at `t` (R50, R51): it sets the time from which the next is counted, and starts a sweep
unless one is in flight. -/
def sweepExpiry (t : Nat) (s : State) : State :=
  let s := s.setMonitor { s.monitor with lastExpiry := t, next := some (t + ms s.monitor.periodMs) }
  if s.monitor.sweep.isSome then s else startSweep s

/-- The sweep period follows the part's state (R51): on a change the next expiry is moved, and falls in this event if its
time has passed. -/
def refreshSweep (s : State) : State :=
  let p := sweepPeriodMs s
  if p = s.monitor.periodMs then s
  else
    let t := s.monitor.lastExpiry + ms p
    let s := s.setMonitor { s.monitor with periodMs := p, next := some t }
    if t ≤ s.now then sweepExpiry s.now s else s

/-! ## Fill scans (R101 to R103) -/

/-- The scan period of the part's state in ms (R103). -/
def scanPeriodMs (s : State) : Nat :=
  if s.drive.state != .stopped then 200
  else
    match s.role with
    | .handle => if s.link.evac != .none then 200 else 1000
    | .dock => if evacLive s.cycle.state then 200 else 1000

/-- The count width a scan started now would use (R102). -/
def effectiveWidth (s : State) : Nat :=
  if s.sensingCfg.width < 12 ∧ s.drive.state ≠ .stopped then 12 else s.sensingCfg.width

/-- The time of a scan of count width `w` in ns (R101, R102): eight measurements. -/
def scanNs (c : SensingCfg) (w : Nat) : Nat :=
  8 * us (c.drainUs + c.chargeUs + (2 ^ w + c.clockMhz - 1) / c.clockMhz)

/-- A scan starts with the settings then stored (R102). -/
def startScan (s : State) : State :=
  let w := effectiveWidth s
  s.setFill
    { s.fill with
      scan := some { width := w, endsAt := s.after (scanNs s.sensingCfg w), rebase := s.fill.rebasePending } }

/-- An expiry of the scan timer at `t` (R103). -/
def scanExpiry (t : Nat) (s : State) : State :=
  let s := s.setFill { s.fill with lastExpiry := t, next := some (t + ms s.fill.periodMs) }
  if s.fill.scan.isSome then s else startScan s

/-- The scan period follows the part's state as the sweep period does (R103); a stopped timer stays stopped. -/
def refreshScan (s : State) : State :=
  let p := scanPeriodMs s
  if p = s.fill.periodMs then s
  else
    let t := s.fill.lastExpiry + ms p
    match s.fill.next with
    | none => s.setFill { s.fill with periodMs := p }
    | some _ =>
      let s := s.setFill { s.fill with periodMs := p, next := some t }
      if t ≤ s.now then scanExpiry s.now s else s

/-- A scan in flight is aborted (R104). -/
def abortScan (s : State) : State := s.setFill { s.fill with scan := none }

/-! ## The evacuation cycle's record (R170, R173) -/

/-- The elapsed seconds as they read now (R172). -/
def cycleElapsed (s : State) : Nat :=
  if s.cycle.state == .running then (s.partTime - s.cycle.runningSince).toNat / 1000 else s.cycle.elapsed

/-- The cycle's own part of an abort (R173): ABORTED with the reason, the timer stopped, elapsed kept, the report. -/
def cycleAborted (r : AbortReason) (s : State) : State :=
  let e := cycleElapsed s
  let s := s.setCycle { s.cycle with state := .aborted, reason := some r, elapsed := e, timer := none }
  refreshScan (report .evacuation 2 [byteOf e, byteOf (abortReasonWire (some r))] s)

/-! ## The stop of the drive (R21, R22, R24) -/

/-- The dirt ring, grade and open window at a stop (R22 step 6, R99). -/
def dirtReset (s : State) : State :=
  s.setDirt { s.dirt with window := none, windowTimer := none, ring := [], grade := 0, rise := 0, fall := 0 }

/-- What a stop event changes of armed and pending start (R21). -/
def permissionAfter (r : StopReason) (d : Drive) : Drive :=
  if r.keeps then d else { d with armed := false, pendingStart := false }

/-- In LATCH mode a stop sets trigger-on to no (R4). -/
def latchOff (m : TriggerMode) (d : Drive) : Drive :=
  match m with
  | .hold => d
  | .latch => { d with trigOn := false }

/-- The charge used since the start (R22): never negative; 0 in dock role (R27). -/
def chargeUsed (s : State) : Int :=
  match s.role with
  | .handle => max 0 (s.drive.startCharge - s.counter.q)
  | .dock => 0

/-- The session impact total as the summary carries it: 0 in dock role (R27). -/
def impactTotal (s : State) : Nat :=
  match s.role with
  | .handle => s.dirt.total
  | .dock => 0

/-- The two reports of a stop (R22 step 7, R197). -/
def stopReports (r : StopReason) (s : State) : State :=
  let run := (s.partTime - s.drive.runStart).toNat
  report .sessionSummary 0
    (le2 (saturate 65535 (run / 100 : Nat)) ++ le2 (saturate 65535 (impactTotal s)) ++
      le2 (saturate 65535 ((chargeUsed s).tdiv 100)))
    (report .driveState 1 (byteOf r.code :: le4 s.drive.nMeas) s)

/-- The drive's outputs and timers at a stop (R22 steps 1, 2 and 4). -/
def stopMotor (s : State) : Motor :=
  { s.motor with
    settle := none
    spinUp := none
    coast := some (s.after (ms 4000))
    period := some (s.motor.period.getD (s.after (ms 2)))
    pumpOn := false
    bridge := none
    pwmDuty := 0
    pwmNext := none
    tripped := false }

/-- The drive record at a stop (R22 steps 1 to 5, R43, R45). -/
def stopDrive (r : StopReason) (s : State) : Drive :=
  latchOff s.driveCfg.mode
    (permissionAfter r
      { s.drive with
        state := .coasting
        duty := 0
        nTgt := 0
        nEff := 0
        pMeas := 0
        pCeil := 0
        stale := 0
        lowSpeed := 0
        overcurrent := 0
        derated := 0
        suspect := 0
        clear := 0
        lastStop := some r })

/-- A running drive makes a stop (R22). The bus gets the fan's share back (R27, R165), and a stop that is not the
evacuation cycle's own aborts a run with FAN_FAULT (R173): EVACUATION ABORTED is queued behind the stop's reports and before the
CONDITION_RAISED of the drive's own fault, which its caller raises (DEDUCED, log entry 20). -/
def makeStop (r : StopReason) (s : State) : State :=
  let m := stopMotor s
  let d := stopDrive r s
  let s := budget (dirtReset (stopReports r ((s.setMotor m).setDrive d)))
  if s.role == .dock && !r.ofCycle && evacLive s.cycle.state then cycleAborted .fanFault s else s

/-- A stop event (R22): in a running state it makes a stop; in STOPPED and COASTING it changes armed, pending start and,
in LATCH mode, trigger-on only. -/
def stopEvent (r : StopReason) (s : State) : State :=
  if s.drive.state.running then makeStop r s
  else s.setDrive (latchOff s.driveCfg.mode (permissionAfter r s.drive))

/-- A run in STARTING or RUNNING is aborted with a stop of the fan (R173); otherwise nothing. -/
def cycleAbort (stop : StopReason) (r : AbortReason) (s : State) : State :=
  if evacLive s.cycle.state then cycleAborted r (stopEvent stop s) else s

/-! ## Ends of conditions (R132) -/

/-- The record of a kind, changed by `f`, in its place. -/
def mapCond (k : CondKind) (f : CondRec → CondRec) (l : List CondRec) : List CondRec :=
  l.map (fun r => if r.kind == k then f r else r)

/-- A kind's raiser ends it (R132): an ACTIVE record becomes ENDED and CONDITION_ENDED is queued. A SELF effect on the
output ends here (R134, R166). -/
def endCond (k : CondKind) (s : State) : State :=
  match condOf s k with
  | none => s
  | some r =>
    if r.active then
      refreshStatus
        (report .conditionEnded k.code [byteOf r.occurrences]
          (s.setConds (mapCond k (fun r => { r with active := false }) s.conds)))
    else s

/-! ## Charge phases (R65, R74) -/

/-- Entry into DONE sets the counter full (R65). -/
def counterFull (s : State) : State :=
  s.setCounter { s.counter with q := s.counter.capacity * 1000, residual := 0, soc := 100, origin := .full }

/-- The current request on entry into a phase (R74 step 3). -/
def entryRequest (p : Phase) (s : State) : Int :=
  match p with
  | .precharge => 250
  | .constCurrent => s.chargeCfg.iCc
  | .constVoltage => s.session.request
  | .topBalance => 100
  | _ => 0

/-- The session limit on entry into a phase (R82, R87). -/
def limitOnEntry (p : Phase) (s : State) : Option Nat :=
  match p with
  | .constCurrent => some (s.session.limit.getD (s.after (ms 18000000)))
  | .done => none
  | .failed => none
  | .none => none
  | _ => s.session.limit

/-- The session record after a change of phase (R74). -/
def phaseRecord (p : Phase) (reason : Option PhaseReason) (s : State) : Session :=
  { s.session with
    phase := p
    reason := reason
    phaseEntry := s.partTime
    request := entryRequest p s
    switchClosed := p.charging
    balance := if s.session.phase.balancing && (p != s.session.phase) then [] else s.session.balance
    precharge := if p == .precharge then some (s.after (ms 1800000)) else none
    topBalance := if p == .topBalance then some (s.after (ms 7200000)) else none
    limit := limitOnEntry p s
    termination := 0
    dockTimer := if p.charging then s.session.dockTimer else none }

/-- The CHARGE_PHASE report (R74 step 2, R197), of the state after the change. -/
def phaseReport (s : State) : State :=
  report .chargePhase (s.session.phase.code + 16 * phaseReasonReport s.session.reason)
    (le2 s.session.request ++ le2 s.pack.vmin ++ le2 s.pack.vmax) s

/-- A change of phase (R74), with what entry into a phase brings: DOCK_V posted (step 7), PACK_EXHAUSTED ended (R61,
R82), the counter set full (R65), the sweep period moved (R51). CHARGE_PHASE is queued before the CONDITION_ENDED of
PACK_EXHAUSTED (DEDUCED, log entry 20). -/
def setPhase (p : Phase) (reason : Option PhaseReason) (s : State) : State :=
  let s := phaseReport (s.setSession (phaseRecord p reason s))
  let s := if p.charging then post .charge s .dockV else s
  let s := if p == .constCurrent then endCond .packExhausted s else s
  let s := if p == .done then counterFull s else s
  refreshSweep s

/-- The session is in QUALIFY or a charging phase: the phases a cause suspends (R78). -/
def suspendable (s : State) : Bool := (s.session.phase == .qualify) || s.session.phase.charging

/-- The reason a suspension records (R78); `expired` when the dock status timer has expired. -/
def suspendReason (expired : Bool) (s : State) : PhaseReason :=
  if s.link.state != .linked || expired then .linkLost
  else if condActive s .chargeTemp then .temp
  else .inhibited

/-- A cause of R78 arises: a session in QUALIFY or a charging phase enters SUSPENDED, any other is unchanged. -/
def suspend (expired : Bool) (s : State) : State :=
  if suspendable s then setPhase .suspended (some (suspendReason expired s)) s else s

/-! ## Raises (R131, R134, R135) -/

/-- The CONDITION_RAISED report (R131, R197). -/
def raisedReport (k : CondKind) (occ : Nat) (d : Option Detail) (s : State) : State :=
  report .conditionRaised k.code ([byteOf occ, boolByte d.isSome] ++ detailField d) s

/-- The drive's reaction to a raise (R24, R134), and the evacuation cycle's to BAG_FULL (R173). -/
def driveReaction (k : CondKind) (s : State) : State :=
  let s :=
    if k.inhibitsDrive then stopEvent (if k == .portSilent then .portSilent else .inhibited) s else s
  if k == .bagFull then cycleAbort .evacBagFull .bagFull s else s

/-- The charge controller's reaction to a raise (R78, R134). -/
def chargeReaction (k : CondKind) (s : State) : State :=
  if k.inhibitsCharge && (s.role == .handle) then suspend false s else s

/-- The output's reaction to a raise (R134, R163). -/
def outputReaction (k : CondKind) (s : State) : State := if k.inhibitsOutput then withdraw s else s

/-- The reactions to a raise that begins an effect or re-raises a LATCH record, block by block (R134, R135). -/
def reactions (k : CondKind) (s : State) : State := outputReaction k (chargeReaction k (driveReaction k s))

/-- The condition list with a raise taken: a record appended, or an ENDED record made ACTIVE again (R131). -/
def raisedList (k : CondKind) (d : Option Detail) (now : Time) (l : List CondRec) : List CondRec :=
  match l.find? (fun r => r.kind == k) with
  | none => l ++ [{ kind := k, active := true, first := now, last := now, occurrences := 1, detail := d }]
  | some _ =>
    mapCond k (fun r => { r with active := true, last := now, occurrences := min 255 (r.occurrences + 1), detail := d }) l

/-- The occurrences after a raise. -/
def raisedOcc (k : CondKind) (l : List CondRec) : Nat :=
  match l.find? (fun r => r.kind == k) with
  | none => 1
  | some r => min 255 (r.occurrences + 1)

/-- A raise as the list takes it (R131): the record and the report. A raise cancels standby pending (R191), with its WAKE
behind CONDITION_RAISED, which comes first (R135). -/
def listRaise (k : CondKind) (d : Option Detail) (s : State) : State :=
  cancelStandby .condition
    (raisedReport k (raisedOcc k s.conds) d (s.setConds (raisedList k d s.partTime s.conds)))

/-- A raise (R131): absorbed while the record is ACTIVE; otherwise the list, the report, then the reactions. -/
def raise (k : CondKind) (d : Option Detail) (s : State) : State :=
  if condActive s k then s else reactions k (listRaise k d s)

/-- A raise in steps 4 and 5 of a sweep completion (R54): as any other, but the charge controller sees it when it acts in
step 6. -/
def raiseInSweep (k : CondKind) (d : Option Detail) (s : State) : State :=
  if condActive s k then s else outputReaction k (driveReaction k (listRaise k d s))

/-! ## Session beginnings, ends and failures (R72, R73, R88) -/

/-- A session begins at QUALIFY, if the phase is NONE and no restart delay runs (R72). -/
def beginSession (s : State) : State :=
  if (s.session.phase == .none) && s.session.restart.isNone then
    setPhase .qualify none
      (s.setSession
        { s.session with
          start := s.partTime
          limit := none
          precharge := none
          topBalance := none
          termination := 0
          dock := resetDockStatus })
  else s

/-- The session ends to NONE (R73, R93): every timer of the record stops, and an ACTIVE CHARGE_TEMP is ended. -/
def endSession (s : State) : State :=
  let s := if s.session.phase == .none then s else setPhase .none none s
  endCond .chargeTemp
    (s.setSession
      { s.session with
        request := 0
        switchClosed := false
        balance := []
        precharge := none
        topBalance := none
        limit := none
        dockTimer := none
        restart := none
        termination := 0 })

/-- The session fails (R88): CHARGE_FAILED raised with the reason and the phase it failed from, and FAILED with the reason.
CONDITION_RAISED precedes CHARGE_PHASE (R135). The raise has no reaction of its own: it inhibits charge only (R129), and
the session goes to FAILED in its event. -/
def failSession (r : PhaseReason) (s : State) : State :=
  let d := some (Detail.failure (phaseReasonReport (some r)) s.session.phase.code)
  setPhase .failed (some r) (if condActive s .chargeFailed then s else listRaise .chargeFailed d s)

/-! ## Starts of the drive and the end of the coast (R8, R23) -/

/-- The start charge (R8): Q, 0 in dock role. -/
def startCharge (s : State) : Int :=
  match s.role with
  | .handle => s.counter.q
  | .dock => 0

/-- The drive record as PRIMING is entered (R8). -/
def startDrive (s : State) : Drive :=
  { s.drive with
    state := .priming
    runStart := s.partTime
    startCharge := startCharge s
    nTgt := (levelUsed s).speed
    levelSeen := levelInUse s
    nEff := 0
    duty := 0
    stale := 0
    lowSpeed := 0
    overcurrent := 0
    derated := 0
    suspect := 0
    clear := 0
    pendingStart := false }

/-- The DRIVE_STATE START report (R8, R197). -/
def startReport (s : State) : State :=
  report .driveState 0 (s.drive.mode.bytes ++ le4 s.drive.nTgt) s

/-- PRIMING entered (R8): the record, the pump and its settle timer, the ceiling (R38), the posts, the report, the bus
budget, and the periods that follow the drive. Where the shorter sweep period makes a sweep start in this event (R51), its
requests are posted behind the drive's two (DEDUCED, log entry 15). -/
def enterPriming (s : State) : State :=
  let s := s.setDrive (startDrive s)
  let s := s.setMotor { s.motor with pumpOn := true, settle := some (s.after (ms 2)) }
  let s := s.setDirt { s.dirt with total := 0 }
  let s := setCeiling (termsNow s) s
  let s := startReport (postAll .drive [.packV, .packI] s)
  refreshScan (refreshSweep (budget s))

/-- The drive starts (R8). While the host is silent the entry into PRIMING raises PORT_SILENT in the same event (R181). -/
def driveStart (s : State) : State :=
  let s := enterPriming s
  if s.port.silent then raise .portSilent none s else s

/-- START_BLOCKED names the first drive-inhibiting kind in list order (R7, R130). -/
def blockedReport (s : State) : State :=
  match firstInhibit s with
  | some r => report .driveState 3 [byteOf r.kind.code] s
  | none => s

/-- The conditions whose cause is over when the fan has come to rest (R133). -/
def endRunFaults (s : State) : State :=
  let s := endCond .gateSupplyFault (endCond .driveOvercurrent (endCond .motorStall s))
  if hallValid s.pins.hall then endCond .hallFault s else s

/-- A pending start is decided at the end of the coast in handle role (R23). A blocked one leaves trigger-on as it is, in
LATCH mode too (DEDUCED, log entry 34). -/
def decidePending (s : State) : State :=
  let d := s.drive
  let s' := s.setDrive { d with pendingStart := false }
  if d.pendingStart then
    if d.armed && d.trigOn then
      if driveInhibited s then blockedReport s' else driveStart s'
    else s'
  else s

/-- A pending start is decided at the end of the coast in dock role (R27). -/
def decidePendingDock (s : State) : State :=
  let s' := s.setDrive { s.drive with pendingStart := false }
  if s.drive.pendingStart then
    if s.cycle.state == .starting then
      if driveInhibited s then cycleAborted .fanFault (blockedReport s') else driveStart s'
    else s'
  else s

/-- The coast ends (R23): STOPPED, the two timers stopped, the run's faults ended (R133), a pending start decided, and
the periods that follow the drive moved. -/
def coastEnd (s : State) : State :=
  let s := s.setDrive { s.drive with state := .stopped }
  let s := s.setMotor { s.motor with period := none, coast := none }
  let s := endRunFaults s
  let s :=
    match s.role with
    | .handle => decidePending s
    | .dock => decidePendingDock s
  refreshScan (refreshSweep s)

/-- Entry into REGULATE (R11): an impact window opens in handle role (R95), and a STARTING cycle becomes RUNNING in dock
role (R172). -/
def enterRegulate (s : State) : State :=
  let s := s.setDrive { s.drive with state := .regulate }
  match s.role with
  | .handle =>
    s.setDirt { s.dirt with window := some 0, windowTimer := some (s.after (ms 50)), rise := 0, fall := 0 }
  | .dock =>
    if s.cycle.state == .starting then
      s.setCycle
        { s.cycle with
          state := .running
          runningSince := s.partTime
          timer := some (s.after (ms (s.cycle.duration * 1000))) }
    else s

/-! ## Leaving and entering standby (R191 to R193) -/

/-- The part wants to wake for an event (R193): it waits behind those already waiting, and the fast clock is started if
it is off. -/
def waitForWake (w : Waiting) (s : State) : State :=
  wakeFastClock (s.setPower { s.power with waiting := s.power.waiting ++ [w] })

/-- In standby the fast clock stops once the queue is empty and no conversion is in flight (R192), so entries held for the
next sweep keep it running (R191, log entry 13). -/
def stopFastClock (s : State) : State :=
  if s.asleep && (s.power.fast == .running) && s.seq.queue.isEmpty && s.seq.inFlight.isNone then
    s.setPower { s.power with fast := .off }
  else s

end Sys2Proof.Machine
end

