-- ==== Sys2Proof/Machine/Operands.lean ====
section
/-! DEFINITION. What requests carry and how it is taken: the catalogue's kinds, roles and payload lengths (10.6, R195), the
clamping and rounding of settings (00_scope 2.6 and the rules of each request), and the shape of an answer. -/

namespace Sys2Proof.Machine

/-- The request kinds of the catalogue (10.6). -/
inductive ReqKind where
  | identify | getStatus | fetchReports | keepalive | run | stop | halt | configureDrive | setLevelEntry
  | configurePack | configureCharge | configureSensing | rebaseBin | configureChannel | configureDock
  | configureSupply | measure | measureFresh | getConditions | ackCondition | setWatch | clearWatch | getWatches
  | evacuate | cancelEvacuation | sleep | restart
deriving DecidableEq, Repr

/-- The catalogue in table order. -/
def ReqKind.all : List ReqKind :=
  [.identify, .getStatus, .fetchReports, .keepalive, .run, .stop, .halt, .configureDrive, .setLevelEntry, .configurePack,
   .configureCharge, .configureSensing, .rebaseBin, .configureChannel, .configureDock, .configureSupply, .measure,
   .measureFresh, .getConditions, .ackCondition, .setWatch, .clearWatch, .getWatches, .evacuate, .cancelEvacuation,
   .sleep, .restart]

/-- The KIND byte of a request (10.6). -/
def ReqKind.byte (k : ReqKind) : Byte :=
  match k with
  | .identify => 0x01
  | .getStatus => 0x02
  | .fetchReports => 0x03
  | .keepalive => 0x04
  | .run => 0x10
  | .stop => 0x11
  | .halt => 0x12
  | .configureDrive => 0x20
  | .setLevelEntry => 0x21
  | .configurePack => 0x22
  | .configureCharge => 0x23
  | .configureSensing => 0x24
  | .rebaseBin => 0x25
  | .configureChannel => 0x26
  | .configureDock => 0x27
  | .configureSupply => 0x28
  | .measure => 0x30
  | .measureFresh => 0x31
  | .getConditions => 0x40
  | .ackCondition => 0x41
  | .setWatch => 0x42
  | .clearWatch => 0x43
  | .getWatches => 0x44
  | .evacuate => 0x50
  | .cancelEvacuation => 0x51
  | .sleep => 0x60
  | .restart => 0x61

/-- The kind a KIND byte names, if any (R179 test 1). -/
def ReqKind.ofByte (b : Byte) : Option ReqKind := ReqKind.all.find? (fun k => k.byte == b)

/-- The fixed payload length of a kind (R195). -/
def ReqKind.payloadLen (k : ReqKind) : Nat :=
  match k with
  | .identify => 0
  | .getStatus => 1
  | .fetchReports => 0
  | .keepalive => 0
  | .run => 2
  | .stop => 0
  | .halt => 1
  | .configureDrive => 9
  | .setLevelEntry => 11
  | .configurePack => 2
  | .configureCharge => 4
  | .configureSensing => 15
  | .rebaseBin => 0
  | .configureChannel => 6
  | .configureDock => 4
  | .configureSupply => 4
  | .measure => 1
  | .measureFresh => 2
  | .getConditions => 1
  | .ackCondition => 2
  | .setWatch => 8
  | .clearWatch => 1
  | .getWatches => 0
  | .evacuate => 0
  | .cancelEvacuation => 0
  | .sleep => 0
  | .restart => 0

/-- The kind applies in a role (the catalogue's role column, 10.6). -/
def ReqKind.applies (k : ReqKind) (r : Role) : Bool :=
  match k with
  | .run => r == .handle
  | .stop => r == .handle
  | .configurePack => r == .handle
  | .configureCharge => r == .handle
  | .configureSupply => r == .dock
  | .evacuate => r == .handle
  | .cancelEvacuation => r == .handle
  | .sleep => r == .handle
  | _ => true

/-- What a request's rule answers: STATUS and payload (R180). -/
structure Answer where
  status : Status
  payload : List Byte
deriving DecidableEq, Repr

/-- An answer without payload. -/
def bare (st : Status) : Answer := { status := st, payload := [] }

/-- OK, or OK_CLAMPED when a value was moved into range (R179). -/
def okIf (moved : Bool) (p : List Byte) : Answer := { status := if moved then .okClamped else .ok, payload := p }

/-! ## Clamping and rounding -/

/-- A reject width in ms rounded down to the next of 0, 1, 4 and 16 (R186). -/
def roundReject (n : Nat) : Nat := if n ≥ 16 then 16 else if n ≥ 4 then 4 else if n ≥ 1 then 1 else 0

/-- An overcurrent threshold: clamped to 20 to 60 A, then rounded down to a multiple of 5 (R17). -/
def roundThreshold (v : Int) : Int := 5 * (clampInt v 20 60).tdiv 5

/-- A target speed: clamped, then rounded down to a multiple of 100 (R29). -/
def roundSpeed (v : Int) : Int := 100 * (clampInt v 20000 125000).tdiv 100

/-- An impact reject width in µs rounded down to the next of 0, 2, 4 and 8 (R100). -/
def roundImpactReject (n : Nat) : Nat := if n ≥ 8 then 8 else if n ≥ 4 then 4 else if n ≥ 2 then 2 else 0

/-- A drain interval: 2 or 10 µs (R113). -/
def roundDrain (n : Nat) : Nat := if n ≥ 10 then 10 else 2

/-- A charge interval: 20 or 40 µs (R113). -/
def roundCharge (n : Nat) : Nat := if n ≥ 40 then 40 else 20

/-- A count clock: 24, 12, 6 or 4 MHz (R113). -/
def roundClock (n : Nat) : Nat := if n ≥ 24 then 24 else if n ≥ 12 then 12 else if n ≥ 6 then 6 else 4

/-- An averaging count rounded down to 1, 2, 4 or 8; 0 becomes 1 (R117). -/
def roundAveraging (n : Nat) : Nat := if n ≥ 8 then 8 else if n ≥ 4 then 4 else if n ≥ 2 then 2 else 1

/-- A natural number bounded to `lo` to `hi`. -/
def clampNat (n lo hi : Nat) : Nat := max lo (min hi n)

/-- The stored level-table fields in the layout of SET_LEVEL_ENTRY (R195). -/
def levelBytes (k : Nat) (l : Level) : List Byte :=
  [byteOf k] ++ le4 l.speed ++ le2 l.pLevel ++ le2 l.pRef ++ le2 l.clogRatio

/-- The six settings of CONFIGURE_DRIVE in that request's layout (R195). -/
def driveCfgBytes (c : DriveCfg) : List Byte :=
  [byteOf c.rejectMs, byteOf c.mode.code, byteOf c.threshold] ++ le2 c.pMax ++ le2 c.vDerate ++ le2 c.vFloor

/-- The settings of CONFIGURE_SENSING in that request's layout (R195). -/
def sensingCfgBytes (c : SensingCfg) : List Byte :=
  [byteOf c.code, byteOf c.rejectUs] ++ le2 c.t1 ++ le2 c.t2 ++ le2 c.t3 ++
    [byteOf c.drainUs, byteOf c.chargeUs, byteOf c.clockMhz, byteOf c.width] ++ le2 c.cover ++ [byteOf c.full]

/-- The settings of CONFIGURE_DOCK in that request's layout (R195). -/
def dockCfgBytes (c : DockCfg) : List Byte :=
  [boolByte c.autoEvacuate, byteOf c.duration, byteOf c.level, boolByte c.chargingEnabled]

/-- A channel's codes and count in the layout of CONFIGURE_CHANNEL (R195). -/
def chanCfgBytes (c : Chan) (r : ChanRec) : List Byte :=
  [byteOf c.number, byteOf r.codes.clock, byteOf r.codes.pre, byteOf r.codes.sample, byteOf r.codes.gap,
   byteOf r.averaging]

end Sys2Proof.Machine
end

