-- ==== Sys2Proof/Machine/Charge.lean ====
section
/-! DEFINITION. Charge sessions and balancing (chapter 4): the work of a sweep, the phase decisions, the balance set, the
dock status, the session's timers, CONFIGURE_CHARGE and HALT CHARGE. -/

namespace Sys2Proof.Machine

/-! ## The work of a sweep (R75) -/

/-- Step 1 (R76): CHARGE_TEMP, only while the phase is not NONE. -/
def chargeTempEval (s : State) : State :=
  if s.session.phase == .none then s
  else if condActive s .chargeTemp then
    if 30 ≤ s.pack.packT ∧ s.pack.packT ≤ 420 then endCond .chargeTemp s else s
  else if s.pack.packT < 0 ∨ s.pack.packT > 450 then raise .chargeTemp (some (.number s.pack.packT)) s
  else s

/-- The pack current lies between −99 and +99 mA (R56, R88). -/
def currentAtRest (s : State) : Bool := decide (-99 ≤ s.pack.packMa ∧ s.pack.packMa ≤ 99)

/-- Step 2 (R88): the end test of CHARGE_FAILED. -/
def chargeFailedEval (s : State) : State := if currentAtRest s then endCond .chargeFailed s else s

/-- The phase that QUALIFY chooses by Vmin (R77). -/
def qualifiedPhase (vmin : Int) : Phase :=
  if vmin < 3000 then .precharge else if vmin ≤ 4050 then .constCurrent else .done

/-- The QUALIFY test (R77). -/
def qualifyTest (s : State) : State :=
  if chargeInhibited s || (s.link.state != .linked) then suspend false s
  else if (s.drive.state != .stopped) || !s.dockCfg.chargingEnabled then s
  else setPhase (qualifiedPhase s.pack.vmin) none s

/-- The SUSPENDED test (R80). -/
def suspendedTest (s : State) : State :=
  if (s.link.state == .linked) && !chargeInhibited s && (s.session.dock.status != .fault) then setPhase .qualify none s
  else s

/-- The current request after the adjustment of CONST_VOLTAGE (R83). -/
def adjustedRequest (request vmax vCellFull iCc : Int) : Int :=
  if vmax > vCellFull then max 0 (request - 50)
  else if vmax < vCellFull - 10 then min iCc (request + 25)
  else request

/-- The termination time after a sweep (R84), capped at 60,000 ms. -/
def terminationAfter (s : State) (dt : Nat) : Nat :=
  if s.session.dock.status == .limited then s.session.termination
  else if -s.pack.packMa ≤ 150 then min 60000 (s.session.termination + dt)
  else 0

/-- The move at the end of CONST_VOLTAGE (R84). -/
def terminate (s : State) : State :=
  setPhase (if s.pack.vmax - s.pack.vmin > 20 then .topBalance else .done) none s

/-- The decision in CONST_VOLTAGE (R83, R84), `dt` ms after the previous sweep completion. -/
def constVoltageWork (dt : Nat) (s : State) : State :=
  let t := terminationAfter s dt
  let r := adjustedRequest s.session.request s.pack.vmax s.chargeCfg.vCellFull s.chargeCfg.iCc
  let s := s.setSession { s.session with request := r, termination := t }
  if t ≥ 60000 then terminate s else s

/-- Step 3 (R75): the phase decision of the present phase. -/
def phaseDecision (dt : Nat) (s : State) : State :=
  match s.session.phase with
  | .none => s
  | .qualify => qualifyTest s
  | .precharge => if s.pack.vmin ≥ 3000 then setPhase .constCurrent none s else s
  | .constCurrent => if s.pack.vmax ≥ s.chargeCfg.vCellFull then setPhase .constVoltage none s else s
  | .constVoltage => constVoltageWork dt s
  | .topBalance => if s.pack.vmax - s.pack.vmin ≤ 20 then setPhase .done none s else s
  | .done => if s.pack.vmin ≤ 4050 then setPhase .qualify none s else s
  | .suspended => suspendedTest s
  | .failed => s

/-! ## The balance set (R91) -/

/-- The candidates: cells 20 mV or more above Vmin and at or above 4,000 mV, by number. -/
def balanceCandidates (p : PackRec) : List (Nat × Int) :=
  [(1, p.cells[0]), (2, p.cells[1]), (3, p.cells[2]), (4, p.cells[3]), (5, p.cells[4]), (6, p.cells[5]),
   (7, p.cells[6])].filter (fun x => decide (x.2 - p.vmin ≥ 20 ∧ x.2 ≥ 4000))

/-- A cell placed in a list ordered by voltage, highest first, behind its equals. -/
def insertCell (x : Nat × Int) (l : List (Nat × Int)) : List (Nat × Int) :=
  match l with
  | [] => [x]
  | y :: rest => if x.2 > y.2 then x :: y :: rest else y :: insertCell x rest

/-- The first three candidates in order of voltage (R91). -/
def balanceSet (p : PackRec) : List Nat :=
  (((balanceCandidates p).foldl (fun l x => insertCell x l) []).take 3).map (fun x => x.1)

/-- Step 4 (R91): the balance set recomputed; empty while a sweep is in flight (R52, R92). -/
def recomputeBalance (s : State) : State :=
  s.setSession
    { s.session with
      balance :=
        if s.session.phase.balancing && decide (s.pack.packT < 450) && s.monitor.sweep.isNone then balanceSet s.pack
        else [] }

/-- The charge controller sees that steps 4 and 5 of the sweep raised a charge-inhibiting condition (R54, R78). -/
def seeRaised (raised : Bool) (s : State) : State := if raised then suspend false s else s

/-- The charge controller's work on a new pack record (R75), `raised` telling of a charge-inhibiting raise in the sweep's
steps 4 and 5: seen behind step 1, whose own raise takes its effect there too, so that the recorded reason follows R78. In
standby only the end test of CHARGE_FAILED is made. -/
def chargeSweep (dt : Nat) (raised : Bool) (s : State) : State :=
  if s.active then recomputeBalance (phaseDecision dt (chargeFailedEval (seeRaised raised (chargeTempEval s))))
  else chargeFailedEval (seeRaised raised s)

/-! ## The dock's deliveries (R79) -/

/-- The dock status timer starts if it is stopped (R79). -/
def startDockTimer (s : State) : State :=
  s.setSession { s.session with dockTimer := some (s.session.dockTimer.getD (s.after (ms 1000))) }

/-- The dock status of a SETPOINT response (R70, R151). -/
def dockStatusOf (p : SetpointPayload) : DockStatus :=
  { vLim := p.vLim.toNat, iLim := p.iLim.toNat, vOut := p.vOut.toNat, iOut := p.iOut.toNat, status := p.status }

/-- A SETPOINT response is stored whole and works the dock status timer (R79). -/
def noteResponse (enable : Bool) (p : SetpointPayload) (s : State) : State :=
  let s := s.setSession { s.session with dock := dockStatusOf p }
  if s.session.phase.charging then
    if p.status == .on || p.status == .limited then s.setSession { s.session with dockTimer := none }
    else if enable then startDockTimer s
    else s
  else s

/-- A SETPOINT exchange fails (R79). -/
def noteFailure (enable : Bool) (s : State) : State :=
  if s.session.phase.charging && enable then startDockTimer s else s

/-! ## Settings and requests -/

/-- CONFIGURE_CHARGE (R71). -/
def reqConfigureCharge (p : List Byte) (s : State) : State × Answer :=
  let i : Int := num2 p 0
  let v : Int := num2 p 2
  let cfg : ChargeCfg := { iCc := clampInt i 500 2500, vCellFull := clampInt v 4100 4200 }
  let s := s.setChargeCfg cfg
  let request :=
    if s.session.phase == .constCurrent then cfg.iCc
    else if s.session.phase == .constVoltage then min s.session.request cfg.iCc
    else s.session.request
  (s.setSession { s.session with vLimit := 7 * cfg.vCellFull, request := request },
   okIf (decide (cfg.iCc ≠ i ∨ cfg.vCellFull ≠ v)) (le2 cfg.iCc ++ le2 cfg.vCellFull))

/-- Charging enabled changes from `was` (R71): turned off in a charging phase, the session returns to QUALIFY. -/
def chargingEnabledChanged (was : Bool) (s : State) : State :=
  if was && !s.dockCfg.chargingEnabled && s.session.phase.charging then setPhase .qualify none s else s

/-- HALT CHARGE: in handle role the session ends and, docked, the restart delay starts (R93); in dock role permission is
withdrawn (R169). -/
def reqHaltCharge (s : State) : State × Answer :=
  match s.role with
  | .handle =>
    let s := endSession s
    (if s.link.docked then s.setSession { s.session with restart := some (s.after (ms 1000)) } else s, bare .ok)
  | .dock => (withdraw s, bare .ok)

/-! ## The commands -/

/-- TERMINATION_TIME_REACHED (R84): the charge current at or below 150 mA for the rest of the 60 s. -/
def terminationReached (s : State) : State :=
  if (s.session.phase == .constVoltage) && (s.session.dock.status != .limited) && decide (-s.pack.packMa ≤ 150) &&
      decide (s.session.termination + s.age s.pack.time ≥ 60000) then terminate s
  else s

/-- TERMINATION_TIME_REACHED (R84). -/
def execTerminationTimeReached (s : State) : Host.Outcome State Fault Refusal := .next (terminationReached s)

/-- PRECHARGE_TIMER_EXPIRY (R81, R88). -/
def execPrechargeTimerExpiry (s : State) : Host.Outcome State Fault Refusal :=
  .next (onExpiry s.session.precharge (fun _ => failSession .prechargeTimeout) s)

/-- TOP_BALANCE_TIMER_EXPIRY (R85). -/
def execTopBalanceTimerExpiry (s : State) : Host.Outcome State Fault Refusal :=
  .next (onExpiry s.session.topBalance (fun _ => setPhase .done none) s)

/-- SESSION_LIMIT_EXPIRY (R87, R88). -/
def execSessionLimitExpiry (s : State) : Host.Outcome State Fault Refusal :=
  .next (onExpiry s.session.limit (fun _ => failSession .timeLimit) s)

/-- The dock status timer has expired (R79): a charging session is suspended with LINK_LOST. -/
def dockStatusExpired (s : State) : State := suspend true (s.setSession { s.session with dockTimer := none })

/-- DOCK_STATUS_TIMER_EXPIRY (R79). -/
def execDockStatusTimerExpiry (s : State) : Host.Outcome State Fault Refusal :=
  .next (onExpiry s.session.dockTimer (fun _ => dockStatusExpired) s)

/-- The restart delay has expired (R93). -/
def restartExpired (s : State) : State :=
  let s := s.setSession { s.session with restart := none }
  if s.link.docked && (s.link.state == .linked) then beginSession s else s

/-- RESTART_DELAY_EXPIRY (R93). -/
def execRestartDelayExpiry (s : State) : Host.Outcome State Fault Refusal :=
  .next (onExpiry s.session.restart (fun _ => restartExpired) s)

end Sys2Proof.Machine
end

