-- ==== Sys2Proof/Machine/Link.lean ====
section
/-! DEFINITION. The dock link's initiator (chapter 8, handle role): docking detection, the conduct of an exchange, the five
responses, the evacuation record, CONFIGURE_DOCK and HALT DOCK_LINK. -/

namespace Sys2Proof.Machine

/-! ## Frames (R142, R198) -/

/-- The time of one byte on the line is 10 bit times at 19,200 bit/s; of `n` bytes, in whole ns. -/
def linkBytesNs (n : Nat) : Nat := n * 1562500 / 3

/-- A frame: SYNC, KIND, LEN, the payload and CHECK. -/
def linkFrame (kind : Byte) (payload : List Byte) : List Byte :=
  [0xA5, kind, byteOf payload.length] ++ payload ++ [byteXor (kind :: byteOf payload.length :: payload)]

/-- The payload length of a request (8.4). -/
def Exch.requestLen (k : Exch) : Nat :=
  match k with
  | .ident => 0
  | .setpoint => 5
  | .evacStart => 1
  | .evacQuery => 0
  | .evacStop => 0

/-- The payload length of a response (8.4). -/
def Exch.responseLen (k : Exch) : Nat :=
  match k with
  | .ident => 11
  | .setpoint => 9
  | .evacStart => 2
  | .evacQuery => 3
  | .evacStop => 1

/-- The KIND byte of a response (R142). -/
def Exch.responseKind (k : Exch) : Byte := k.kind + 0x40

/-- A frame is whole and its SYNC, KIND, LEN and CHECK are as they must be (R142). -/
def frameMatches (kind : Byte) (len : Nat) (f : List Byte) : Bool :=
  decide (f.length = len + 4) && (byteAt f 0 == 0xA5) && (byteAt f 1 == kind) && (byteAt f 2 == byteOf len) &&
    (byteAt f (len + 3) == byteXor ((f.drop 1).take (len + 2)))

/-- A received frame answers an exchange of kind `k` (R147): valid, of its kind, and for IDENT of revision 1. -/
def responseValid (k : Exch) (f : List Byte) (framingOk : Bool) : Bool :=
  framingOk && frameMatches k.responseKind k.responseLen f && ((k != .ident) || (byteAt f 3 == 1))

/-! ## Docking detection (R143) -/

/-- The comparator's level against the docking state (R143): a candidate opens, or the open one is dropped. -/
def contactSeen (s : State) : State :=
  if s.pins.contact = s.link.docked then s.setLink { s.link with candidate := none }
  else
    match s.link.candidate with
    | some _ => s
    | none => s.setLink { s.link with candidate := some (s.after (ms (if s.pins.contact then 200 else 50))) }

/-- DOCK_COMPARATOR_CHANGE (R143). In dock role the comparator is not sampled. -/
def contactChange (high : Bool) (s : State) : State :=
  let s := s.setPins { s.pins with contact := high }
  if s.up && (s.role == .handle) then contactSeen s else s

/-- The DOCK report with sub-code LINK (R197). -/
def linkReport (s : State) : State := report .dock 2 [byteOf s.link.state.code] s

/-- The qualified DOCKED event as the blocks take it (R145, R25). -/
def dockedEvent (s : State) : State :=
  let s := s.setLink
    { s.link with
      dockedTime := s.partTime
      state := .identifying
      failures := 0
      pend := { s.link.pend with ident := true } }
  stopEvent .docked (linkReport (report .dock 0 [byteOf s.link.state.code] s))

/-- An EVACUATION report of the stick (R197): the outcome, the elapsed seconds if the dock gave them, and the reason. -/
def evacReport (outcome : Nat) (elapsed : Option Nat) (reason : Nat) (s : State) : State :=
  report .evacuation outcome [optByte elapsed, byteOf reason] s

/-- The link dropped at the qualified UNDOCKED event (R146, first two points): the exchange abandoned, nothing pending,
the timers stopped. -/
def linkDropped (l : Link) : Link :=
  { l with
    exchange := none
    pend := noPending
    setpointPoll := none
    queryPoll := none
    backoff := none
    faultRetry := none
    failures := 0
    state := .absent }

/-- The evacuation record cleared at the qualified UNDOCKED event (R146, R157). -/
def evacUndocked (s : State) : State :=
  if s.link.evac == .none then s.setLink { s.link with readopt := false }
  else
    evacReport 6 none 0
      (s.setLink
        { s.link with evac := .none, stopPending := false, readopt := false, lastEvacEnd := some s.partTime })

/-- The qualified UNDOCKED event as the blocks take it (R146, R73). -/
def undockedEvent (s : State) : State :=
  let s := endCond .dockLinkFault (s.setLink (linkDropped s.link))
  let s := evacUndocked s
  let s := s.setLink { s.link with postCount := none }
  let s := linkReport (report .dock 1 [byteOf s.link.state.code] s)
  refreshScan (endSession s)

/-! ## Conducting an exchange (R147, R149) -/

/-- The state permits a kind (R149). -/
def permitted (l : LinkState) (k : Exch) : Bool :=
  match l with
  | .absent => false
  | .identifying => k == .ident
  | .linked => k != .ident
  | .fault => k == .ident

/-- The pending set holds a kind. -/
def PendingSet.has (p : PendingSet) (k : Exch) : Bool :=
  match k with
  | .ident => p.ident
  | .setpoint => p.setpoint
  | .evacStart => p.evacStart
  | .evacQuery => p.evacQuery
  | .evacStop => p.evacStop

/-- The pending set with a kind placed or removed. -/
def PendingSet.put (p : PendingSet) (k : Exch) (b : Bool) : PendingSet :=
  match k with
  | .ident => { p with ident := b }
  | .setpoint => { p with setpoint := b }
  | .evacStart => { p with evacStart := b }
  | .evacQuery => { p with evacQuery := b }
  | .evacStop => { p with evacStop := b }

/-- The kinds in the order in which they are taken (R147). -/
def Exch.order : List Exch := [.ident, .evacStop, .evacStart, .setpoint, .evacQuery]

/-- The kind the initiator would start (R147). -/
def nextExchange (l : Link) : Option Exch := Exch.order.find? (fun k => permitted l.state k && l.pend.has k)

/-- The initiator can start an exchange, and this is its kind (R147): it is active, none is in flight and the back-off
timer is stopped. -/
def startable (s : State) : Option Exch :=
  if s.active && s.fastUp && (s.role == .handle) && s.link.exchange.isNone && s.link.backoff.isNone then
    nextExchange s.link
  else none

/-- The enable that a SETPOINT carries (R89). -/
def setpointEnable (s : State) : Bool := s.session.phase.charging

/-- The I_limit that a SETPOINT carries (R89). -/
def setpointLimit (s : State) : Int := if setpointEnable s then s.session.request else 0

/-- The payload of a request, composed from the state as it stands (R147, R89, R153). -/
def requestPayload (k : Exch) (s : State) : List Byte :=
  match k with
  | .ident => []
  | .setpoint => boolByte (setpointEnable s) :: (le2 s.session.vLimit ++ le2 (setpointLimit s))
  | .evacStart => [byteOf s.dockCfg.duration]
  | .evacQuery => []
  | .evacStop => []

/-- A started exchange (R147): the line still takes `waitNs` to have read high for 2 ms. -/
def exchangeFor (k : Exch) (waitNs : Nat) (s : State) : Exchange :=
  let f := linkFrame k.kind (requestPayload k s)
  { kind := k
    frame := f
    enable := setpointEnable s
    idleLimit := s.after (ms 20)
    sentAt := if waitNs ≤ ms 20 then some (s.after (waitNs + linkBytesNs f.length)) else none
    receiving := false }

/-- EXCHANGE_START (R147, R151). -/
def exchangeStart (waitNs : Nat) (s : State) : State :=
  match startable s with
  | none => s
  | some k =>
    let s := s.setLink { s.link with pend := s.link.pend.put k false, exchange := some (exchangeFor k waitNs s) }
    if k == .setpoint then post .dock s .dockV else s

/-! ## Outcomes (R148) -/

/-- The dock link leaves LINKED (R78): a session in QUALIFY or a charging phase is suspended. A link that was not LINKED
leaves the session alone. -/
def leaveLinked (was : LinkState) (s : State) : State := if was == .linked then suspend false s else s

/-- The third consecutive failure (R148): FAULT, only EVAC_STOP and EVAC_START kept pending, the retry timer started, the
condition raised, the session suspended by a move out of LINKED, and the state reported. -/
def enterLinkFault (o : LinkOutcome) (s : State) : State :=
  let was := s.link.state
  let s := s.setLink
    { s.link with
      failures := 3
      state := .fault
      pend := { noPending with evacStart := s.link.pend.evacStart, evacStop := s.link.pend.evacStop }
      setpointPoll := none
      queryPoll := none
      backoff := none
      faultRetry := some (s.after (ms 1000)) }
  linkReport (leaveLinked was (raise .dockLinkFault (some (.number o.code)) s))

/-- A failure is counted (R148): in FAULT the count stays and the kind waits for the retry timer. -/
def countFailure (k : Exch) (o : LinkOutcome) (s : State) : State :=
  if s.link.state == .fault then s
  else if s.link.failures + 1 < 3 then
    s.setLink
      { s.link with
        failures := s.link.failures + 1
        pend := s.link.pend.put k true
        backoff := some (s.after (ms 10)) }
  else enterLinkFault o (s.setLink { s.link with pend := s.link.pend.put k true })

/-- The exchange in flight fails (R147, R148, R79). -/
def failExchange (f : LinkFailure) (s : State) : State :=
  match s.link.exchange with
  | none => s
  | some e =>
    let s := s.setLink { s.link with exchange := none, lastOutcome := outcomeOf f }
    let s := if e.kind == .setpoint then noteFailure e.enable s else s
    countFailure e.kind (outcomeOf f) s

/-- The exchange in flight succeeds (R148). -/
def exchangeOk (s : State) : State :=
  s.setLink { s.link with exchange := none, failures := 0, lastOutcome := .ok }

/-- A start bit or a response can still come (R147): the request has been sent and its 20 ms have not passed, unless the
response is already arriving. -/
def responseOpen (e : Exchange) (s : State) : Bool :=
  match e.sentAt with
  | none => false
  | some t => e.receiving || decide (s.now ≤ t + ms 20)

/-- A valid response of kind `k` ends (R147): time runs at least to the request's end; a response of another kind than the
request's is BAD_CHECK. -/
def response (k : Exch) (f : Exchange → State → State) (s : State) : State :=
  match s.link.exchange with
  | none => s
  | some e =>
    if responseOpen e s then
      let s := s.advanceTo (e.sentAt.getD 0)
      if e.kind == k then f e s else failExchange .badCheck s
    else s

/-- LINK_IDLE_TIMEOUT (R147): the line was not high for 2 ms within 20 ms. -/
def idleTimedOut (s : State) : State :=
  match s.link.exchange with
  | none => s
  | some e =>
    match e.sentAt with
    | none => failExchange .timeout (s.advanceTo e.idleLimit)
    | some _ => s

/-- LINK_CONTENTION (R147): while the request is being sent. Time runs at least to the moment at which the request's frame
starts, behind the wait for the line (log entry 14). -/
def contention (s : State) : State :=
  match s.link.exchange with
  | none => s
  | some e =>
    match e.sentAt with
    | none => s
    | some t =>
      if s.now < t then failExchange .contention (s.advanceTo (t - linkBytesNs e.frame.length)) else s

/-- A response being sent is abandoned (R159): a mismatch, or a frame that begins to arrive, within its bytes' time. -/
def abandonSending (s : State) : State :=
  match s.responder.response with
  | none => s
  | some r =>
    if r.sending && decide (s.now < r.startAt + linkBytesNs r.frame.length) then
      s.setResponder { s.responder with response := none }
    else s

/-- What stands on the line for the responder changes, in dock role with the fast clock running (R159). -/
def setArrival (a : Arrival) (s : State) : State :=
  if s.fastUp && (s.role == .dock) then s.setResponder { s.responder with arrival := a } else s

/-- A frame begins to arrive in dock role (R159): contention for a response being sent. The table has no row for its start
bit, so RESPONSE_START_BIT tells it (DESIGN CHOICE, log entry 33). -/
def requestBegins (s : State) : State :=
  if s.fastUp && (s.role == .dock) then setArrival .begun (abandonSending s) else s

/-- RESPONSE_START_BIT (R147): the response begins. With no exchange in flight, in dock role, it is the start bit of a
frame that the stick sends (R142, log entry 33). -/
def responseBegins (s : State) : State :=
  match s.link.exchange with
  | none => requestBegins s
  | some e =>
    if responseOpen e s then
      (s.advanceTo (e.sentAt.getD 0)).setLink { s.link with exchange := some { e with receiving := true } }
    else s

/-- RESPONSE_TIMEOUT (R147): no start bit within 20 ms of the request's last stop bit. -/
def responseTimedOut (s : State) : State :=
  match s.link.exchange with
  | none => s
  | some e =>
    match e.sentAt with
    | none => s
    | some t => if e.receiving then s else failExchange .timeout (s.advanceTo (t + ms 20))

/-- LINK_FRAME_GAP_TIMEOUT (R142): a response broken off by a gap of more than 2 ms is invalid, so the exchange fails with
BAD_CHECK; in dock role the partly received request is discarded. -/
def linkGap (s : State) : State :=
  match s.link.exchange with
  | none => setArrival .idle s
  | some e => if e.receiving then failExchange .badCheck s else s

/-- LINK_FAILURE_LIMIT (R148): the failed exchange is the third in a row, in IDENTIFYING or LINKED. -/
def failureLimit (f : LinkFailure) (s : State) : State :=
  if s.link.exchange.isSome && (s.link.state == .identifying || s.link.state == .linked) &&
      decide (s.link.failures + 1 ≥ 3) then failExchange f s
  else s

/-! ## The evacuation record (R150, R152, R153) -/

/-- The evacuation record takes a state; the EVAC_QUERY poll timer runs while it is not NONE in LINKED (R149), and the
scan period follows (R103). -/
def setEvac (e : EvacRecState) (s : State) : State :=
  let poll :=
    if e == .none then none
    else if s.link.state == .linked then some (s.link.queryPoll.getD (s.after (ms 500)))
    else s.link.queryPoll
  refreshScan (s.setLink { s.link with evac := e, queryPoll := poll })

/-- The record becomes NONE by a response (R150, R153): the end is noted, and a DONE starts the post-evacuation count. -/
def evacEnded (done : Bool) (s : State) : State :=
  let s := s.setLink
    { s.link with
      lastEvacEnd := some s.partTime
      postCount := if done then some 0 else s.link.postCount }
  setEvac .none s

/-- The record leaves NONE for REQUESTED (R152). -/
def startEvac (s : State) : State :=
  setEvac .requested
    (s.setLink
      { s.link with pend := s.link.pend.put .evacStart true, stopPending := false, postCount := none })

/-- An evacuation tracked by the record is settled by the dock's state in an IDENT response (R150). -/
def settleByIdent (d : EvacState) (s : State) : State :=
  match d with
  | .starting => setEvac .running s
  | .running => setEvac .running s
  | .done => evacReport 1 none 0 (evacEnded true s)
  | .aborted => evacReport 2 none 0 (evacEnded false s)
  | .idle => if s.link.evac == .running then evacReport 4 none 0 (evacEnded false s) else evacEnded false s

/-- The dock's evacuation state is applied to the record (R150). -/
def applyEvacState (d : EvacState) (s : State) : State :=
  let marked := s.link.readopt
  let s := s.setLink { s.link with readopt := false }
  match s.link.evac with
  | .none => if marked then settleByIdent d s else s
  | .requested => if evacLive d then setEvac .running s else s
  | .running => settleByIdent d s

/-- The link enters LINKED (R149, R150, R72): the poll timers start, DOCK_LINK_FAULT ends, the state is reported and the
charge controller takes the entry. -/
def enterLinked (s : State) : State :=
  let s := s.setLink
    { s.link with
      state := .linked
      backoff := none
      faultRetry := none
      setpointPoll := some (s.after (ms 250))
      queryPoll := if s.link.evac == .none then none else some (s.after (ms 500)) }
  beginSession (linkReport (endCond .dockLinkFault s))

/-- IDENT_RESPONSE (R150). -/
def identTaken (p : IdentPayload) (s : State) : State :=
  if p.revision = 1 then
    let s := exchangeOk s
    let s := s.setLink { s.link with identity := p }
    let s := if s.link.state == .identifying || s.link.state == .fault then enterLinked s else s
    applyEvacState p.evac s
  else failExchange .badCheck s

/-- SETPOINT_RESPONSE (R151, R79). -/
def setpointTaken (p : SetpointPayload) (e : Exchange) (s : State) : State := noteResponse e.enable p (exchangeOk s)

/-- The record is RUNNING after an EVAC_START (R153): EVAC_STOP becomes pending if a stop is. -/
def evacAccepted (s : State) : State :=
  let s := setEvac .running s
  if s.link.stopPending then s.setLink { s.link with pend := s.link.pend.put .evacStop true } else s

/-- EVAC_START_RESPONSE (R153). -/
def evacStartTaken (a : EvacAnswer) (s : State) : State :=
  let s := exchangeOk s
  match a with
  | .accepted => evacAccepted s
  | .refused .busy => evacAccepted s
  | .refused r =>
    evacReport 3 none (evacRefusalWire r) (evacEnded false (s.setLink { s.link with stopPending := false }))

/-- EVAC_QUERY_RESPONSE (R153): it acts on a RUNNING record. The LOST report of an IDLE dock carries 0xFF for the elapsed
seconds, whatever the response gave (DEDUCED, log entry 22). -/
def evacQueryTaken (d : EvacState) (elapsed : Byte) (reason : Option AbortReason) (s : State) : State :=
  let s := exchangeOk s
  if s.link.evac == .running then
    match d with
    | .starting => s
    | .running => s
    | .done => evacReport 1 (some elapsed.toNat) 0 (evacEnded true s)
    | .aborted => evacReport 2 (some elapsed.toNat) (abortReasonWire reason) (evacEnded false s)
    | .idle => evacReport 4 none 0 (evacEnded false s)
  else s

/-- EVAC_STOP_RESPONSE (R153). -/
def evacStopTaken (s : State) : State :=
  let s := exchangeOk s
  s.setLink { s.link with stopPending := false }

/-! ## Received frames (R142, R147, R198) -/

/-- The value of an enumeration that a received code names, its values given in code order; a code that names none is read
as the free one of them that `spare` picks (R194 states no reading, log entry 24). -/
def codeValue {α : Type} (first : α) (rest : List α) (spare : Nat) (code : Byte) : α :=
  let values := first :: rest
  values.getD code.toNat (values.getD (spare % values.length) first)

/-- The codes in a response's payload each name a value (R194, R198). -/
def codesNamed (k : Exch) (p : List Byte) : Bool :=
  match k with
  | .ident => decide (num1 p 7 < 2) && decide (num1 p 9 < 2) && decide (num1 p 10 < 5)
  | .setpoint => decide (num1 p 8 < 4)
  | .evacStart => decide (num1 p 0 = 0) || (decide (num1 p 0 = 1) && decide (1 ≤ num1 p 1) && decide (num1 p 1 ≤ 4))
  | .evacQuery => decide (num1 p 0 < 5) && decide (num1 p 2 < 6)
  | .evacStop => decide (num1 p 0 < 5)

/-- A cycle state as received (R198). -/
def evacStateOf (spare : Nat) (code : Byte) : EvacState :=
  codeValue .idle [.starting, .running, .done, .aborted] spare code

/-- The payload of an IDENT response (R198). -/
def identOf (spare : Nat → Nat) (p : List Byte) : IdentPayload :=
  { revision := byteAt p 0
    vMaxOut := BitVec.ofNat 16 (num2 p 1)
    iMaxOut := BitVec.ofNat 16 (num2 p 3)
    busLimit := BitVec.ofNat 16 (num2 p 5)
    fitted := codeValue false [true] (spare 7) (byteAt p 7)
    bagLevel := byteAt p 8
    bagFull := codeValue false [true] (spare 9) (byteAt p 9)
    evac := evacStateOf (spare 10) (byteAt p 10) }

/-- The payload of a SETPOINT response (R198). -/
def setpointOf (spare : Nat → Nat) (p : List Byte) : SetpointPayload :=
  { vLim := BitVec.ofNat 16 (num2 p 0)
    iLim := BitVec.ofNat 16 (num2 p 2)
    vOut := BitVec.ofNat 16 (num2 p 4)
    iOut := BitVec.ofNat 16 (num2 p 6)
    status := codeValue .off [.on, .limited, .fault] (spare 8) (byteAt p 8) }

/-- The payload of an EVAC_START response (R198): ACCEPTED, or REFUSED with one of the four reasons. REFUSED with the code of
no reason, for which R153 has no line, is read as REFUSED with a free one of the four (DESIGN CHOICE, log entry 24). -/
def evacAnswerOf (spare : Nat → Nat) (p : List Byte) : EvacAnswer :=
  if codeValue true [false] (spare 0) (byteAt p 0) then .accepted
  else .refused (codeValue .bagFull [.notFitted, .busy, .inhibited] (spare 1) (byteAt p 1 - 1))

/-- The abort reason of an EVAC_QUERY response (R198). -/
def abortReasonOf (spare : Nat) (code : Byte) : Option AbortReason :=
  codeValue none [some .stopped, some .bagFull, some .fanFault, some .linkSilent, some .stickRemoved] spare code

/-- A frame that is a valid response to the exchange in flight is handled by its payload `p` (R147, 8.4). A free value is
used up where a code names no value. -/
def responseTaken (e : Exchange) (p : List Byte) (s : State) : State :=
  let spare := Config.unnamedCode s.free
  let s := if codesNamed e.kind p then s else s.setFree (s.free + 1)
  match e.kind with
  | .ident => identTaken (identOf spare p) s
  | .setpoint => setpointTaken (setpointOf spare p) e s
  | .evacStart => evacStartTaken (evacAnswerOf spare p) s
  | .evacQuery => evacQueryTaken (evacStateOf (spare 0) (byteAt p 0)) (byteAt p 1) (abortReasonOf (spare 2) (byteAt p 2)) s
  | .evacStop => evacStopTaken s

/-- LINK_RESPONSE_INVALID (R147): the bytes received while a response can come, tested as any frame is. One that is no
answer to the exchange in flight fails it with BAD_CHECK; one that is a valid answer is handled as such (log entry 24). -/
def responseInvalid (f : List Byte) (framingOk : Bool) (s : State) : State :=
  match s.link.exchange with
  | none => s
  | some e =>
    if responseOpen e s then
      let s := s.advanceTo (e.sentAt.getD 0)
      if responseValid e.kind f framingOk then responseTaken e (f.drop 3) s else failExchange .badCheck s
    else s

/-! ## Timers (R148, R149) -/

/-- The back-off timer has expired (R148). -/
def backoffOver (s : State) : State := s.setLink { s.link with backoff := none }

/-- The SETPOINT poll timer expires at `t` (R149). -/
def setpointPollAt (t : Nat) (s : State) : State :=
  s.setLink { s.link with setpointPoll := some (t + ms 250), pend := s.link.pend.put .setpoint true }

/-- The EVAC_QUERY poll timer expires at `t` (R149). -/
def queryPollAt (t : Nat) (s : State) : State :=
  s.setLink { s.link with queryPoll := some (t + ms 500), pend := s.link.pend.put .evacQuery true }

/-- The FAULT retry timer expires at `t` (R148). -/
def faultRetryAt (t : Nat) (s : State) : State :=
  s.setLink { s.link with faultRetry := some (t + ms 1000), pend := s.link.pend.put .ident true }

/-! ## Scan completions (R106 step 7, R152, R155) -/

/-- The post-evacuation check at its third scan (R155). -/
def postCheck (s : State) : State :=
  let s := s.setLink { s.link with postCount := none }
  if s.fill.debounced ≥ s.sensingCfg.full then
    raise .evacuationIneffective (some (.number s.fill.debounced)) s
  else s

/-- The post-evacuation count at a scan completion (R155). -/
def postScan (s : State) : State :=
  match s.link.postCount with
  | none => s
  | some k => if k + 1 ≥ 3 then postCheck s else s.setLink { s.link with postCount := some (k + 1) }

/-- EVACUATION_INEFFECTIVE ends below the full level (R155). -/
def ineffectiveEnd (s : State) : State :=
  if s.fill.debounced < s.sensingCfg.full then endCond .evacuationIneffective s else s

/-- The automatic start's test (R152). -/
def autoEvacuate (s : State) : Bool :=
  (s.link.evac == .none) && s.dockCfg.autoEvacuate && condActive s .binFull && s.link.docked &&
    decide (s.age s.link.dockedTime ≥ 10000) && (s.link.state == .linked) && s.link.identity.fitted &&
    (condOf s .evacuationIneffective).isNone &&
    (match s.link.lastEvacEnd with
      | none => true
      | some t => decide (s.age t ≥ 60000))

/-- The dock link's work on a scan completion (R106 step 7). -/
def linkScan (s : State) : State :=
  match s.role with
  | .dock => s
  | .handle =>
    let s := ineffectiveEnd (postScan s)
    if autoEvacuate s then startEvac s else s

/-! ## Requests -/

/-- EVACUATE (R152). -/
def reqEvacuate (_p : List Byte) (s : State) : State × Answer :=
  if s.link.evac != .none then (s, bare .busy)
  else if s.link.state != .linked then (s, { status := .refused, payload := [0] })
  else if !s.link.identity.fitted then (s, { status := .refused, payload := [1] })
  else (startEvac s, bare .ok)

/-- CANCEL_EVACUATION by the record's state (R154). -/
def cancelEvac (s : State) : State :=
  match s.link.evac with
  | .none => s
  | .requested =>
    if s.link.pend.evacStart then
      evacReport 5 none 0
        (setEvac .none
          (s.setLink { s.link with pend := s.link.pend.put .evacStart false, lastEvacEnd := some s.partTime }))
    else s.setLink { s.link with stopPending := true }
  | .running => s.setLink { s.link with stopPending := true, pend := s.link.pend.put .evacStop true }

/-- CANCEL_EVACUATION (R154). -/
def reqCancelEvacuation (_p : List Byte) (s : State) : State × Answer := (cancelEvac s, bare .ok)

/-- CONFIGURE_DOCK (R156, R71). -/
def reqConfigureDock (p : List Byte) (s : State) : State × Answer :=
  let d := num1 p 1
  let l := num1 p 2
  let cfg : DockCfg :=
    { autoEvacuate := num1 p 0 != 0
      duration := clampNat d 5 60
      level := clampNat l 1 4
      chargingEnabled := num1 p 3 != 0 }
  let was := s.dockCfg.chargingEnabled
  let s := s.setDockCfg cfg
  let s := if s.role == .handle then chargingEnabledChanged was s else s
  (s, okIf (cfg.duration != d || cfg.level != l) (dockCfgBytes cfg))

/-- The link record after HALT DOCK_LINK in handle role (R157). -/
def linkHalted (l : Link) : Link :=
  { linkDropped l with
    evac := .none
    readopt := if l.evac == .none then l.readopt else true
    stopPending := false
    state := if l.docked then .identifying else .absent
    pend := { noPending with ident := l.docked } }

/-- A request that has begun to arrive is abandoned (R157): what comes of it is no request any more. -/
def Arrival.halted (a : Arrival) : Arrival :=
  match a with
  | .idle => .idle
  | .begun => .abandoned
  | .abandoned => .abandoned

/-- HALT DOCK_LINK (R157): in handle role the link starts anew, and a move out of LINKED suspends the session; in dock role
the response in flight and a partly received request are abandoned. A response that still waits out its 1 ms counts as in
flight (DEDUCED, log entry 37). -/
def reqHaltDockLink (s : State) : State × Answer :=
  match s.role with
  | .handle =>
    let was := s.link.state
    (leaveLinked was (refreshScan (linkReport (s.setLink (linkHalted s.link)))), bare .ok)
  | .dock =>
    (s.setResponder { s.responder with response := none, arrival := s.responder.arrival.halted }, bare .ok)

/-! ## Standby (R158) -/

/-- The dock link at entry into standby (R158). -/
def linkAsleep (l : Link) : Link :=
  { l with
    exchange := none
    pend :=
      match l.exchange with
      | none => l.pend
      | some e => l.pend.put e.kind true
    setpointPoll := none
    queryPoll := none
    backoff := none
    faultRetry := none }

/-- The dock link resumes at wake (R158); the EVAC_QUERY poll timer runs again if the record is not NONE (R149). -/
def linkResume (s : State) : State :=
  match s.link.state with
  | .absent => s
  | .identifying => s
  | .linked =>
    s.setLink
      { s.link with
        setpointPoll := some (s.after (ms 250))
        queryPoll := if s.link.evac == .none then none else some (s.after (ms 500))
        pend := s.link.pend.put .setpoint true }
  | .fault => s.setLink { s.link with faultRetry := some (s.after (ms 1000)) }

/-! ## The commands -/

/-- DOCK_COMPARATOR_CHANGE (R143). -/
def execDockComparatorChange (high : Bool) (s : State) : Host.Outcome State Fault Refusal :=
  .next (contactChange high s)

/-- EXCHANGE_START (R147). -/
def execExchangeStart (waitNs : Nat) (s : State) : Host.Outcome State Fault Refusal := .next (exchangeStart waitNs s)

/-- LINK_IDLE_TIMEOUT (R147). -/
def execLinkIdleTimeout (s : State) : Host.Outcome State Fault Refusal := .next (idleTimedOut s)

/-- LINK_CONTENTION (R147). -/
def execLinkContention (s : State) : Host.Outcome State Fault Refusal := .next (contention s)

/-- RESPONSE_TIMEOUT (R147). -/
def execResponseTimeout (s : State) : Host.Outcome State Fault Refusal := .next (responseTimedOut s)

/-- RESPONSE_START_BIT (R147). -/
def execResponseStartBit (s : State) : Host.Outcome State Fault Refusal := .next (responseBegins s)

/-- LINK_FRAME_GAP_TIMEOUT (R142). -/
def execLinkFrameGapTimeout (s : State) : Host.Outcome State Fault Refusal := .next (linkGap s)

/-- LINK_RESPONSE_INVALID (R147). -/
def execLinkResponseInvalid (f : List Byte) (framingOk : Bool) (s : State) : Host.Outcome State Fault Refusal :=
  .next (responseInvalid f framingOk s)

/-- LINK_FAILURE_LIMIT (R148). -/
def execLinkFailureLimit (f : LinkFailure) (s : State) : Host.Outcome State Fault Refusal := .next (failureLimit f s)

/-- IDENT_RESPONSE (R150). -/
def execIdentResponse (p : IdentPayload) (s : State) : Host.Outcome State Fault Refusal :=
  .next (response .ident (fun _ => identTaken p) s)

/-- SETPOINT_RESPONSE (R151). -/
def execSetpointResponse (p : SetpointPayload) (s : State) : Host.Outcome State Fault Refusal :=
  .next (response .setpoint (setpointTaken p) s)

/-- EVAC_START_RESPONSE (R153). -/
def execEvacStartResponse (a : EvacAnswer) (s : State) : Host.Outcome State Fault Refusal :=
  .next (response .evacStart (fun _ => evacStartTaken a) s)

/-- EVAC_QUERY_RESPONSE (R153). -/
def execEvacQueryResponse (d : EvacState) (elapsed : Byte) (reason : Option AbortReason) (s : State) :
    Host.Outcome State Fault Refusal :=
  .next (response .evacQuery (fun _ => evacQueryTaken d elapsed reason) s)

/-- EVAC_STOP_RESPONSE (R153). -/
def execEvacStopResponse (_d : EvacState) (s : State) : Host.Outcome State Fault Refusal :=
  .next (response .evacStop (fun _ => evacStopTaken) s)

/-- BACKOFF_EXPIRY (R148). -/
def execBackoffExpiry (s : State) : Host.Outcome State Fault Refusal :=
  .next (onExpiry s.link.backoff (fun _ => backoffOver) s)

/-- SETPOINT_POLL_EXPIRY (R149). -/
def execSetpointPollExpiry (s : State) : Host.Outcome State Fault Refusal :=
  .next (onExpiry s.link.setpointPoll setpointPollAt s)

/-- EVAC_QUERY_POLL_EXPIRY (R149). -/
def execEvacQueryPollExpiry (s : State) : Host.Outcome State Fault Refusal :=
  .next (onExpiry s.link.queryPoll queryPollAt s)

/-- FAULT_RETRY_EXPIRY (R148). -/
def execFaultRetryExpiry (s : State) : Host.Outcome State Fault Refusal :=
  .next (onExpiry s.link.faultRetry faultRetryAt s)

/-- POST_EVAC_CHECK (R155): the count's third scan completion. -/
def postEvacReached (s : State) : State :=
  match s.link.postCount with
  | none => s
  | some k => if s.active && decide (k + 1 ≥ 3) then postCheck s else s

/-- POST_EVAC_CHECK (R155). -/
def execPostEvacCheck (s : State) : Host.Outcome State Fault Refusal := .next (postEvacReached s)

end Sys2Proof.Machine
end

