-- ==== Sys2Proof/Machine/Clock.lean ====
section
/-! DEFINITION. How time passes while no command waits (log entry 1): the deadlines of the running timers and operations,
and the tick of 1 µs, which never passes one that is due. -/

namespace Sys2Proof.Machine

/-- The timers of the slow clock and the settle of the fast clock (R190). -/
def slowDeadlines (s : State) : List (Option Nat) :=
  [s.motor.candidate, s.link.candidate, s.monitor.next, s.port.silence,
   match s.power.fast with
    | .off => none
    | .settling t => some t
    | .running => none]

/-- The next deadline of an exchange in flight (R147). -/
def exchangeDeadline (s : State) : Option Nat :=
  match s.link.exchange with
  | none => none
  | some e =>
    match e.sentAt with
    | none => some e.idleLimit
    | some t => if e.receiving then none else some (t + ms 20)

/-- The start of a composed response (R159). -/
def responseDeadline (s : State) : Option Nat :=
  match s.responder.response with
  | none => none
  | some r => if r.sending then none else some r.startAt

/-- The end of the fill scan in flight (R102). -/
def scanDeadline (s : State) : Option Nat :=
  match s.fill.scan with
  | none => none
  | some c => some c.endsAt

/-- The end of the conversion in flight (R118). -/
def conversionDeadline (s : State) : Option Nat :=
  match s.seq.inFlight with
  | none => none
  | some f => some f.endsAt

/-- The timers and operations of the fast clock (R190). -/
def fastDeadlines (s : State) : List (Option Nat) :=
  [s.motor.settle, s.motor.period, s.motor.spinUp, s.motor.coast, s.motor.pwmNext, s.motor.edge, s.session.precharge,
   s.session.topBalance, s.session.limit, s.session.dockTimer, s.session.restart, s.dirt.pulse, s.dirt.dead,
   s.dirt.windowTimer, s.fill.next, scanDeadline s, conversionDeadline s, s.link.setpointPoll, s.link.queryPoll,
   s.link.backoff, s.link.faultRetry, exchangeDeadline s, s.responder.keepAlive, s.responder.candidate,
   responseDeadline s, s.output.period, s.output.recovery, s.cycle.timer, s.port.gap]

/-- The deadlines that time must not pass. -/
def deadlines (s : State) : List (Option Nat) :=
  slowDeadlines s ++ (if s.fastUp then fastDeadlines s else [])

/-- The least of a time and the running deadlines. -/
def earliest (t : Nat) (l : List (Option Nat)) : Nat :=
  match l with
  | [] => t
  | none :: rest => earliest t rest
  | some d :: rest => earliest (min t d) rest

/-- A tick: 1 µs passes, but not past a deadline, and not while an exchange is to start at once (R147). -/
def tick (s : State) : State :=
  if (startable s).isSome then s else s.advanceTo (earliest (s.now + 1000) (deadlines s))

end Sys2Proof.Machine
end

