-- ==== Sys2Proof/Machine/Conditions.lean ====
section
/-! DEFINITION. The host's requests to the condition list and the watch table (chapter 7): GET_CONDITIONS, ACK_CONDITION,
SET_WATCH, CLEAR_WATCH and GET_WATCHES. -/

namespace Sys2Proof.Machine

/-! ## Conditions (R136, R137) -/

/-- A condition record in its 16 bytes (R195): ACTIVE 0, ENDED 1. -/
def condBytes (r : CondRec) : List Byte :=
  [byteOf r.kind.code, boolByte (!r.active), byteOf r.occurrences, boolByte r.detail.isSome] ++ timeBytes r.first ++
    timeBytes r.last ++ detailField r.detail

/-- The condition records of a list in bytes. -/
def condListBytes (l : List CondRec) : List Byte :=
  match l with
  | [] => []
  | r :: rest => condBytes r ++ condListBytes rest

/-- GET_CONDITIONS (R137). -/
def reqGetConditions (p : List Byte) (s : State) : State × Answer :=
  (s,
   { status := .ok
     payload := byteOf s.conds.length :: condListBytes ((s.conds.drop (num1 p 0)).take 3) })

/-- The list without the record of a kind: the others close up (R136). -/
def removeCond (k : CondKind) (l : List CondRec) : List CondRec := l.filter (fun r => r.kind != k)

/-- The reactions to a removal (R134, R88): the output's status, and a FAILED session still docked begins again at
QUALIFY. -/
def removalReactions (k : CondKind) (s : State) : State :=
  let s := refreshStatus s
  if (k == .chargeFailed) && (s.session.phase == .failed) && s.link.docked then setPhase .qualify none s else s

/-- ACK_CONDITION for a kind of the table (R136): the reply carries state and occurrences as they stood. -/
def ackKind (k : CondKind) (occ : Nat) (s : State) : State × Answer :=
  match condOf s k with
  | none => (s, { status := .notFound, payload := [0xFF, 0] })
  | some r =>
    let p : List Byte := [boolByte (!r.active), byteOf r.occurrences]
    if r.active then (s, { status := .stillActive, payload := p })
    else if r.occurrences ≠ occ then (s, { status := .stale, payload := p })
    else (removalReactions k (s.setConds (removeCond k s.conds)), { status := .ok, payload := p })

/-- ACK_CONDITION (R136). -/
def reqAckCondition (p : List Byte) (s : State) : State × Answer :=
  match CondKind.ofCode (num1 p 0) with
  | none => (s, bare .invalid)
  | some k => ackKind k (num1 p 1) s

/-! ## Watches (R141) -/

/-- The slots with one replaced. -/
def setSlot (n : Nat) (w : Option Watch) (v : Vector (Option Watch) 8) : Vector (Option Watch) 8 :=
  perEight (fun i => if i.val = n then w else v[i])

/-- A quantity is published in a role (R139). -/
def Quantity.inRole (q : Quantity) (r : Role) : Bool :=
  match q with
  | .chan c => c.inRole r
  | .minCell => r == .handle
  | .maxCell => r == .handle
  | .soc => r == .handle
  | .pMeas => true
  | .nMeas => true
  | .dirtRate => r == .handle

/-- The watch that a SET_WATCH stores (R141): ARMED, a hysteresis below 0 stored as 0. -/
def requestedWatch (q : Quantity) (p : List Byte) : Watch :=
  { quantity := q
    rising := num1 p 2 == 0
    threshold := int3 p 3
    hysteresis := max 0 (int2 p 6)
    fired := false }

/-- SET_WATCH (R141). -/
def reqSetWatch (p : List Byte) (s : State) : State × Answer :=
  if num1 p 0 > 7 ∨ num1 p 2 > 1 then (s, bare .invalid)
  else
    match Quantity.ofCode (num1 p 1) with
    | none => (s, bare .invalid)
    | some q =>
      if q.inRole s.role then
        (s.setWatches (setSlot (num1 p 0) (some (requestedWatch q p)) s.watches), okIf (decide (int2 p 6 < 0)) [])
      else (s, bare .wrongRole)

/-- CLEAR_WATCH (R141). -/
def reqClearWatch (p : List Byte) (s : State) : State × Answer :=
  if num1 p 0 > 7 then (s, bare .invalid)
  else (s.setWatches (setSlot (num1 p 0) none s.watches), bare .ok)

/-- The three named bits of an occupied slot's first byte below the bits the manual leaves open (R195, log entry 5). -/
def slotFlags (w : Watch) (spare : Byte) : Byte :=
  (spare &&& 0xF8) ||| byteOf (1 + (if w.rising then 0 else 2) + (if w.fired then 4 else 0))

/-- A watch slot record in its 7 bytes (R195): an empty slot is seven zero bytes. -/
def slotBytes (o : Option Watch) (spare : Byte) : List Byte :=
  match o with
  | none => [0, 0, 0, 0, 0, 0, 0]
  | some w => [slotFlags w spare, byteOf w.quantity.code] ++ le3 w.threshold ++ le2 w.hysteresis

/-- GET_WATCHES (R141): the eight slots in slot order. -/
def reqGetWatches (_p : List Byte) (s : State) : State × Answer :=
  let b := fun (i : Fin 8) => slotBytes s.watches[i] (Config.slotSpare (s.free + i.val))
  (s.setFree (s.free + 8),
   { status := .ok, payload := b 0 ++ b 1 ++ b 2 ++ b 3 ++ b 4 ++ b 5 ++ b 6 ++ b 7 })

end Sys2Proof.Machine
end

