-- ==== Sys2Proof/Machine/Dock.lean ====
section
/-! DEFINITION. Dock role (chapters 8 and 9): the responder, stick presence, the output stage, and the evacuation cycle. -/

namespace Sys2Proof.Machine

/-! ## The responder (R159, R160) -/

/-- A frame received in dock role ends (R142, R159), and `f` is what it brings; of a frame that HALT DOCK_LINK abandoned
while it was arriving (R157) nothing is received. -/
def frameEnds (f : State → State) (s : State) : State :=
  if s.fastUp && (s.role == .dock) then
    if s.responder.arrival == .abandoned then setArrival .idle s else f (setArrival .idle s)
  else s

/-- A valid request is taken (R159, R160): the keep-alive timer restarts, the request's effects take place, and the
response is composed from the state they leave, to start 1 ms later. -/
def answerRequest (k : Exch) (effect : State → State) (payload : State → List Byte) (s : State) : State :=
  let s := s.setResponder
    { s.responder with keepAlive := some (s.after (ms 1000)), lastValid := some s.partTime, response := none }
  let s := effect s
  s.setResponder
    { s.responder with
      response := some
        { frame := linkFrame k.responseKind (payload s), startAt := s.after (ms 1), sending := false } }

/-- A valid request ends on the line in dock role (R159). -/
def linkRequest (k : Exch) (effect : State → State) (payload : State → List Byte) (s : State) : State :=
  frameEnds (answerRequest k effect payload) s

/-- The payload of an IDENT response (R159, R198). -/
def identPayload (s : State) : List Byte :=
  [1] ++ le2 30000 ++ le2 s.output.iMax ++ le2 s.output.busLimit ++
    [boolByte s.evacFit, byteOf s.fill.debounced, boolByte (condActive s .bagFull), byteOf (evacStateCode s.cycle.state)]

/-- The payload of a SETPOINT response (R164, R198). -/
def setpointPayload (s : State) : List Byte :=
  le2 s.output.vLim ++ le2 s.output.iApp ++ le2 (saturate 65535 (s.chan .dockV).value) ++
    le2 (saturate 65535 (s.chan .outI).value) ++ [byteOf (outStatusCode s.output.status)]

/-- The kind of the request that received bytes spell (R142): every stop bit high, and SYNC, KIND, LEN and CHECK as a
request's must be. None for an invalid frame and for one of an unknown or a response kind. -/
def requestOf (f : List Byte) (framingOk : Bool) : Option Exch :=
  if framingOk then Exch.order.find? (fun k => frameMatches k.kind k.requestLen f) else none

/-- RESPONSE_SEND_START (R159). -/
def responseSends (s : State) : State :=
  match s.responder.response with
  | none => s
  | some r =>
    if r.sending then s
    else (s.advanceTo r.startAt).setResponder { s.responder with response := some { r with sending := true } }

/-- RESPONDER_CONTENTION (R159): a mismatch while the response is being sent abandons it. -/
def responderContention (s : State) : State := abandonSending s

/-- The keep-alive timer has expired (R160): the dock is silent. -/
def keepAliveExpired (s : State) : State :=
  cycleAbort .evacAborted .linkSilent (withdraw (s.setResponder { s.responder with keepAlive := none }))

/-! ## Stick presence (R161) -/

/-- The **STICK_SENSE** level against the presence (R161): a candidate opens, or the open one is dropped. -/
def stickSeen (s : State) : State :=
  if s.pins.stick = s.responder.present then s.setResponder { s.responder with candidate := none }
  else
    match s.responder.candidate with
    | some _ => s
    | none =>
      s.setResponder { s.responder with candidate := some (s.after (ms (if s.pins.stick then 200 else 50))) }

/-- STICK_SENSE_CHANGE (R161), in dock role. -/
def stickChange (high : Bool) (s : State) : State :=
  let s := s.setPins { s.pins with stick := high }
  if s.up && (s.role == .dock) then stickSeen s else s

/-- The presence becomes PRESENT (R161). -/
def stickPresent (s : State) : State := s.setResponder { s.responder with present := true, candidate := none }

/-- The presence becomes ABSENT (R161, R163, R173). -/
def stickAbsent (s : State) : State :=
  cycleAbort .evacAborted .stickRemoved
    (withdraw (s.setResponder { s.responder with present := false, candidate := none }))

/-! ## The output stage (R163 to R168) -/

/-- Permission is granted (R163, R167), if it was not yet. -/
def grant (s : State) : State :=
  if s.output.permission then s
  else s.setOutput { s.output with permission := true, period := some (s.after (ms 1)) }

/-- Permission by the enable of a SETPOINT (R163). -/
def permissionBy (enable : Bool) (s : State) : State :=
  if enable then (if s.responder.present && !outputInhibited s then grant s else s) else withdraw s

/-- A SETPOINT is taken by the output stage (R164). -/
def takeSetpoint (enable : Bool) (v i : Int) (s : State) : State :=
  let s := s.setOutput { s.output with vLim := clampInt v 0 30000, iRequested := i }
  budget (permissionBy enable s)

/-- Both records of the output loop are valid and younger than 2 ms (R167). -/
def outputFresh (s : State) : Bool :=
  (s.chan .dockV).valid && (s.chan .outI).valid &&
    decide (s.age (s.chan .dockV).time < 2) && decide (s.age (s.chan .outI).time < 2)

/-- Step 2 of an output period (R167). -/
def outputFreshness (fresh : Bool) (s : State) : State :=
  if fresh then s.setOutput { s.output with vOut := (s.chan .dockV).value, iOut := (s.chan .outI).value, stale := 0 }
  else if s.output.stale + 1 ≥ 10 then s.setOutput { s.output with duty := 0, stale := 0 }
  else s.setOutput { s.output with stale := s.output.stale + 1 }

/-- The move of the duty in a fresh period (R167 step 5). -/
def outputStep (o : Output) : Int :=
  min (clampInt ((o.vLim - o.vOut).tdiv 50) (-10) 5) (clampInt ((o.iApp - o.iOut).tdiv 20) (-10) 5)

/-- An output overvoltage (R168): no duty, no permission, the raise, and the recovery timer. -/
def overvoltage (s : State) : State :=
  let v := s.output.vOut
  let s := raise .outputOvervolt (some (.number v)) (withdraw s)
  s.setOutput { s.output with recovery := some (s.after (ms 1)) }

/-- Steps 4 and 5 of a fresh output period (R167). -/
def outputMove (s : State) : State :=
  if s.output.vOut > s.output.vLim + 500 then overvoltage s
  else s.setOutput { s.output with duty := clampInt (s.output.duty + outputStep s.output) 0 950 }

/-- The output period timer expires at `t` (R167). -/
def outputPeriodAt (t : Nat) (s : State) : State :=
  let s := s.setOutput { s.output with period := some (t + ms 1) }
  let s := postAll .output [.dockV, .outI] s
  let fresh := outputFresh s
  let s := budget (outputFreshness fresh s)
  if fresh then outputMove s else s

/-- OUTPUT_STALE_LIMIT (R167): the tenth stale period in a row. -/
def outputStaleReached (s : State) : State :=
  if s.output.permission && !outputFresh s && decide (s.output.stale + 1 ≥ 10) then
    s.setOutput { s.output with duty := 0, stale := 0 }
  else s

/-- The recovery timer expires at `t` (R168). -/
def recoveryAt (t : Nat) (s : State) : State :=
  post .output (s.setOutput { s.output with recovery := some (t + ms 1) }) .dockV

/-- A DOCK_V value is delivered to OUTPUT (R168): the first at or below V_lim ends OUTPUT_OVERVOLT. -/
def outputDelivered (v : Int) (s : State) : State :=
  if condActive s .outputOvervolt && decide (v ≤ s.output.vLim) then
    endCond .outputOvervolt (s.setOutput { s.output with recovery := none })
  else s

/-- CONFIGURE_SUPPLY (R169, R37): a changed bus power limit recomputes the ceiling of a running fan from the terms of its
last period. -/
def reqConfigureSupply (p : List Byte) (s : State) : State × Answer :=
  let b : Int := num2 p 0
  let i : Int := num2 p 2
  let bus := clampInt b 100 600
  let iMax := clampInt i 500 3000
  let changed := decide (bus ≠ s.output.busLimit)
  let s := s.setOutput { s.output with busLimit := bus, iMax := iMax }
  let s := if changed && s.drive.state.running then setCeiling s.drive.terms s else s
  (budget s, okIf (decide (bus ≠ b ∨ iMax ≠ i)) (le2 bus ++ le2 iMax))

/-! ## The evacuation cycle (R171 to R174) -/

/-- The cycle asks the drive to start (R27, R171). -/
def cycleStartsFan (s : State) : State :=
  match s.drive.state with
  | .stopped => driveStart s
  | .coasting => s.setDrive { s.drive with pendingStart := true }
  | .priming => s
  | .spinUp => s
  | .regulate => s

/-- What an EVAC_START meets (R171): the refusal, or `none` on acceptance. -/
def evacRefusal (s : State) : Option EvacRefusal :=
  if evacLive s.cycle.state then some .busy
  else if !s.evacFit then some .notFitted
  else if condActive s .bagFull then some .bagFull
  else if driveInhibited s then some .inhibited
  else none

/-- An accepted EVAC_START (R171). -/
def cycleStart (duration : Nat) (s : State) : State :=
  let d := clampNat duration 5 60
  let s := s.setCycle
    { s.cycle with state := .starting, reason := none, duration := d, elapsed := 0, timer := none }
  refreshScan (cycleStartsFan (report .evacuation 0 [byteOf d, 0] s))

/-- EVAC_START is taken (R171): the state after it. -/
def evacStartEffect (duration : Nat) (s : State) : State :=
  match evacRefusal s with
  | some _ => s
  | none => cycleStart duration s

/-- The payload of an EVAC_START response (R198) to a request that met `r`. -/
def evacStartPayload (r : Option EvacRefusal) : List Byte :=
  match r with
  | none => [0, 0]
  | some r => [1, byteOf (evacRefusalWire r)]

/-- The payload of an EVAC_QUERY response (R174, R198). -/
def evacQueryPayload (s : State) : List Byte :=
  [byteOf (evacStateCode s.cycle.state), byteOf (cycleElapsed s), byteOf (abortReasonWire s.cycle.reason)]

/-- The payload of an EVAC_STOP response (R174, R198). -/
def evacStopPayload (s : State) : List Byte := [byteOf (evacStateCode s.cycle.state)]

/-- The duration timer has expired (R172). -/
def durationExpired (s : State) : State :=
  let s := stopEvent .evacComplete s
  let s := s.setCycle { s.cycle with state := .done, elapsed := s.cycle.duration, timer := none }
  refreshScan (report .evacuation 1 [byteOf s.cycle.elapsed, 0] s)

/-! ## The five requests (R159), and received frames -/

/-- IDENT is taken. -/
def identRequest (s : State) : State := linkRequest .ident (fun s => s) identPayload s

/-- SETPOINT is taken, with its enable, V_limit and I_limit (R164). -/
def setpointRequest (enable : Bool) (v i : Nat) (s : State) : State :=
  linkRequest .setpoint (takeSetpoint enable v i) setpointPayload s

/-- EVAC_START is taken, with its duration (R171). -/
def evacStartRequest (duration : Nat) (s : State) : State :=
  linkRequest .evacStart (evacStartEffect duration) (fun _ => evacStartPayload (evacRefusal s)) s

/-- EVAC_QUERY is taken (R174). -/
def evacQueryRequest (s : State) : State := linkRequest .evacQuery (fun s => s) evacQueryPayload s

/-- EVAC_STOP is taken (R173). -/
def evacStopRequest (s : State) : State := linkRequest .evacStop (cycleAbort .evacStopped .stopped) evacStopPayload s

/-- A request of kind `k` with payload `p` is taken (R198). -/
def requestTaken (k : Exch) (p : List Byte) (s : State) : State :=
  match k with
  | .ident => identRequest s
  | .setpoint => setpointRequest (byteAt p 0 != 0) (num2 p 1) (num2 p 3) s
  | .evacStart => evacStartRequest (num1 p 0) s
  | .evacQuery => evacQueryRequest s
  | .evacStop => evacStopRequest s

/-- A frame has been received in dock role (R142, R159): a valid request is taken, and any other frame is discarded
without an answer. A response being sent is abandoned in either case, since the frame began to arrive during it. -/
def frameReceived (f : List Byte) (framingOk : Bool) (s : State) : State :=
  match requestOf f framingOk with
  | some k => requestTaken k (f.drop 3) s
  | none => frameEnds abandonSending s

/-! ## The commands -/

/-- DOCK_FRAME_DISCARDED (R159, R142): the bytes received, tested as any frame is. -/
def execDockFrameDiscarded (frame : List Byte) (framingOk : Bool) (s : State) : Host.Outcome State Fault Refusal :=
  .next (frameReceived frame framingOk s)

/-- IDENT_REQUEST (R159). -/
def execIdentRequest (s : State) : Host.Outcome State Fault Refusal :=
  .next (identRequest s)

/-- SETPOINT_REQUEST (R164). -/
def execSetpointRequest (enable : Bool) (vLimit iLimit : BitVec 16) (s : State) : Host.Outcome State Fault Refusal :=
  .next (setpointRequest enable vLimit.toNat iLimit.toNat s)

/-- EVAC_START_REQUEST (R171). -/
def execEvacStartRequest (duration : Byte) (s : State) : Host.Outcome State Fault Refusal :=
  .next (evacStartRequest duration.toNat s)

/-- EVAC_QUERY_REQUEST (R174). -/
def execEvacQueryRequest (s : State) : Host.Outcome State Fault Refusal :=
  .next (evacQueryRequest s)

/-- EVAC_STOP_REQUEST (R173). -/
def execEvacStopRequest (s : State) : Host.Outcome State Fault Refusal :=
  .next (evacStopRequest s)

/-- RESPONSE_SEND_START (R159). -/
def execResponseSendStart (s : State) : Host.Outcome State Fault Refusal := .next (responseSends s)

/-- RESPONDER_CONTENTION (R159). -/
def execResponderContention (s : State) : Host.Outcome State Fault Refusal := .next (responderContention s)

/-- KEEPALIVE_EXPIRY (R160). -/
def execKeepaliveExpiry (s : State) : Host.Outcome State Fault Refusal :=
  .next (onExpiry s.responder.keepAlive (fun _ => keepAliveExpired) s)

/-- STICK_SENSE_CHANGE (R161). -/
def execStickSenseChange (high : Bool) (s : State) : Host.Outcome State Fault Refusal := .next (stickChange high s)

/-- STICK_PRESENT_QUALIFIED (R161). -/
def execStickPresentQualified (s : State) : Host.Outcome State Fault Refusal :=
  .next (if s.responder.present then s else onExpiry s.responder.candidate (fun _ => stickPresent) s)

/-- STICK_ABSENT_QUALIFIED (R161). -/
def execStickAbsentQualified (s : State) : Host.Outcome State Fault Refusal :=
  .next (if s.responder.present then onExpiry s.responder.candidate (fun _ => stickAbsent) s else s)

/-- OUTPUT_PERIOD (R167). -/
def execOutputPeriod (s : State) : Host.Outcome State Fault Refusal :=
  .next (onExpiry s.output.period outputPeriodAt s)

/-- OUTPUT_STALE_LIMIT (R167). -/
def execOutputStaleLimit (s : State) : Host.Outcome State Fault Refusal := .next (outputStaleReached s)

/-- RECOVERY_TIMER_EXPIRY (R168). -/
def execRecoveryTimerExpiry (s : State) : Host.Outcome State Fault Refusal :=
  .next (onExpiry s.output.recovery recoveryAt s)

/-- DURATION_EXPIRY (R172). -/
def execDurationExpiry (s : State) : Host.Outcome State Fault Refusal :=
  .next (onExpiry s.cycle.timer (fun _ => durationExpired) s)

end Sys2Proof.Machine
end

