-- ==== Sys2Proof/Machine/Drive.lean ====
section
/-! DEFINITION. The suction drive (chapters 1 and 2): trigger, RUN, STOP and HALT DRIVE, the start sequence, the control
period, commutation and speed, overcurrent, the counts that end a run, and the drive's settings. -/

namespace Sys2Proof.Machine

/-! ## Target speed and level (R31) -/

/-- n_tgt takes the target speed of the level in use (R31): a changed value clears the clog counts, a changed level in use
is told by a LEVEL report. An evacuation level changed in PRIMING is told at the first control period (DEDUCED, log
entry 35). -/
def refreshTarget (s : State) : State :=
  let k := levelInUse s
  let n := (levelUsed s).speed
  let d := s.drive
  let changed := n ≠ d.nTgt
  let s1 := s.setDrive
    { d with
      nTgt := n
      levelSeen := k
      suspect := if changed then 0 else d.suspect
      clear := if changed then 0 else d.clear }
  if k = d.levelSeen then s1
  else report .driveState 2 ([byteOf k, d.mode.byte] ++ le4 n) s1

/-! ## Requests -/

/-- The mode a RUN asks for, its level clamped (R5). -/
def requestedMode (mode level : Nat) : Mode :=
  if mode = 0 then .manual (clampNat level 1 4) else .auto (clampNat level 1 3)

/-- The level of a RUN lay outside its range (R5). -/
def levelMoved (mode level : Nat) : Bool :=
  if mode = 0 then clampNat level 1 4 != level else clampNat level 1 3 != level

/-- What an accepted RUN does by state (R5 step 4). -/
def runByState (s : State) : State :=
  match s.drive.state with
  | .stopped => if s.drive.trigOn then driveStart s else s
  | .priming => refreshTarget s
  | .spinUp => refreshTarget s
  | .regulate => refreshTarget s
  | .coasting => s.setDrive { s.drive with pendingStart := true }

/-- RUN in handle role (R5). -/
def reqRun (p : List Byte) (s : State) : State × Answer :=
  let mode := num1 p 0
  let level := num1 p 1
  if mode > 1 then (s, bare .invalid)
  else if s.link.docked then (s, { status := .refused, payload := [0, 0] })
  else
    match firstInhibit s with
    | some r => (s, { status := .refused, payload := [1, byteOf r.kind.code] })
    | none =>
      (runByState (s.setDrive { s.drive with armed := true, mode := requestedMode mode level }),
       okIf (levelMoved mode level) [])

/-- STOP in handle role (R6). -/
def reqStop (_p : List Byte) (s : State) : State × Answer := (stopEvent .stopRequested s, bare .ok)

/-- HALT DRIVE (R26). -/
def reqHaltDrive (s : State) : State × Answer := (stopEvent .halt s, bare .ok)

/-- A one-byte field of CONFIGURE_DRIVE: the keep value 0xFF leaves the stored setting (R194). -/
def keep1 (n : Nat) : Option Nat := if n = 255 then none else some n

/-- A two-byte field of CONFIGURE_DRIVE: the keep value 0xFFFF leaves the stored setting (R194). -/
def keep2 (n : Nat) : Option Nat := if n = 65535 then none else some n

/-- A setting stored through `f`, or kept. -/
def storeInt (o : Option Nat) (old : Int) (f : Int → Int) : Int :=
  match o with
  | none => old
  | some n => f n

/-- A field was given and moved by its adjustment. -/
def movedInt (o : Option Nat) (stored : Int) : Bool :=
  match o with
  | none => false
  | some n => decide (stored ≠ (n : Int))

/-- The settings a CONFIGURE_DRIVE leaves (R186, R17, R32). -/
def driveCfgAfter (p : List Byte) (c : DriveCfg) : DriveCfg :=
  let vDerate := storeInt (keep2 (num2 p 5)) c.vDerate (fun v => clampInt v 3100 3900)
  { c with
    rejectMs := match keep1 (num1 p 0) with
      | none => c.rejectMs
      | some n => roundReject n
    mode := match keep1 (num1 p 1) with
      | none => c.mode
      | some n => if n = 0 then .hold else .latch
    threshold := storeInt (keep1 (num1 p 2)) c.threshold roundThreshold
    pMax := storeInt (keep2 (num2 p 3)) c.pMax (fun v => clampInt v 100 600)
    vDerate := vDerate
    vFloor := clampInt (storeInt (keep2 (num2 p 7)) c.vFloor (fun v => v)) 2700 (vDerate - 100) }

/-- Some field of a CONFIGURE_DRIVE was adjusted (R186): a kept V_floor counts as clamped if it moved (R32). -/
def driveCfgMoved (p : List Byte) (old new : DriveCfg) : Bool :=
  (match keep1 (num1 p 0) with
    | none => false
    | some n => new.rejectMs != n) ||
  movedInt (keep1 (num1 p 2)) new.threshold ||
  movedInt (keep2 (num2 p 3)) new.pMax ||
  movedInt (keep2 (num2 p 5)) new.vDerate ||
  (match keep2 (num2 p 7) with
    | none => decide (new.vFloor ≠ old.vFloor)
    | some n => decide (new.vFloor ≠ (n : Int)))

/-- A change of trigger mode in handle role (R4): trigger-on is recomputed, and a running drive whose trigger-on becomes
no takes a stop event. -/
def triggerModeChanged (s : State) : State :=
  let was := s.drive.trigOn
  let s := s.setDrive { s.drive with trigOn := s.drive.trigPressed }
  if s.drive.state.running && was && !s.drive.trigPressed then stopEvent .triggerReleased s else s

/-- CONFIGURE_DRIVE (R186). -/
def reqConfigureDrive (p : List Byte) (s : State) : State × Answer :=
  let mode := num1 p 1
  if mode > 1 ∧ mode ≠ 255 then (s, bare .invalid)
  else
    let old := s.driveCfg
    let new := driveCfgAfter p old
    let s := s.setDriveCfg new
    let s := if (new.mode != old.mode) && (s.role == .handle) then triggerModeChanged s else s
    (s, okIf (driveCfgMoved p old new) (driveCfgBytes new))

/-- The level record of a SET_LEVEL_ENTRY as stored (R29). -/
def levelOf (p : List Byte) : Level :=
  { speed := roundSpeed (int4 p 1)
    pLevel := clampInt (num2 p 5) 20 550
    pRef := clampInt (num2 p 7) 10 550
    clogRatio := clampInt (num2 p 9) 300 900 }

/-- Some field of a SET_LEVEL_ENTRY was changed by clamping or rounding (R29). -/
def levelFieldsMoved (p : List Byte) : Bool :=
  let l := levelOf p
  decide (l.speed ≠ int4 p 1 ∨ l.pLevel ≠ (num2 p 5 : Int) ∨ l.pRef ≠ (num2 p 7 : Int) ∨ l.clogRatio ≠ (num2 p 9 : Int))

/-- The level table with record `k` (1 to 4) replaced. -/
def setLevel (k : Nat) (l : Level) (v : Vector Level 4) : Vector Level 4 :=
  #v[if k = 1 then l else v[0], if k = 2 then l else v[1], if k = 3 then l else v[2], if k = 4 then l else v[3]]

/-- SET_LEVEL_ENTRY (R29): a store into the level in use while the fan is regulated clears the clog counts (R45). -/
def reqSetLevelEntry (p : List Byte) (s : State) : State × Answer :=
  let k := num1 p 0
  if k < 1 ∨ k > 4 then (s, bare .invalid)
  else
    let s := s.setDriveCfg { s.driveCfg with levels := setLevel k (levelOf p) s.driveCfg.levels }
    let s :=
      if s.drive.state.switching && (levelInUse s == k) then s.setDrive { s.drive with suspect := 0, clear := 0 }
      else s
    (s, okIf (levelFieldsMoved p) (levelBytes k (levelOf p)))

/-! ## Trigger (R3, R4, R7) -/

/-- A start event from the trigger, by state (R7). In LATCH mode one that an inhibiting effect blocks sets trigger-on back
to no (R4). -/
def startEvent (s : State) : State :=
  match s.drive.state with
  | .stopped =>
    if s.drive.armed then
      if driveInhibited s then
        let s := blockedReport s
        s.setDrive (latchOff s.driveCfg.mode s.drive)
      else driveStart s
    else s
  | .coasting => if s.drive.armed then s.setDrive { s.drive with pendingStart := true } else s
  | .priming => s
  | .spinUp => s
  | .regulate => s

/-- A qualified press as the drive takes it (R4). -/
def pressEvent (s : State) : State :=
  match s.driveCfg.mode with
  | .hold => startEvent (s.setDrive { s.drive with trigOn := true })
  | .latch =>
    if s.drive.trigOn then stopEvent .triggerReleased (s.setDrive { s.drive with trigOn := false })
    else startEvent (s.setDrive { s.drive with trigOn := true })

/-- A qualified release as the drive takes it (R4). -/
def releaseEvent (s : State) : State :=
  match s.driveCfg.mode with
  | .hold => stopEvent .triggerReleased (s.setDrive { s.drive with trigOn := false })
  | .latch => s

/-- The pin level becomes the trigger level (R3). In standby a press is a wake event that the drive takes once the part is
active again (R193); a release behind a waiting press waits with it. -/
def qualifyTrigger (s : State) : State :=
  let level := s.pins.trig
  let s := s.setMotor { s.motor with candidate := none }
  let s := s.setDrive { s.drive with trigPressed := level }
  if level then
    if s.asleep then waitForWake .press s else pressEvent (cancelStandby .trigger s)
  else if s.asleep && s.power.waiting.contains .press then waitForWake .release s
  else releaseEvent s

/-- The noise rejector sees the pin level (R3): an open candidate is dropped or completes under the width it started with;
without one, a level off the trigger level opens a candidate, or is qualified at once with the width off. -/
def rejector (s : State) : State :=
  if s.pins.trig = s.drive.trigPressed then s.setMotor { s.motor with candidate := none }
  else
    match s.motor.candidate with
    | some _ => s
    | none =>
      if s.driveCfg.rejectMs = 0 then qualifyTrigger s
      else s.setMotor { s.motor with candidate := some (s.after (ms s.driveCfg.rejectMs)) }

/-- TRIGGER_PIN_CHANGE (R3). In dock role the trigger input is not sampled (R4). -/
def trigPinChange (pressed : Bool) (s : State) : State :=
  let s := s.setPins { s.pins with trig := pressed }
  if s.up && (s.role == .handle) then rejector s else s

/-- The rejector's timer expires (R3). -/
def trigQualified (s : State) : State :=
  if s.up then onExpiry s.motor.candidate (fun _ => qualifyTrigger) s else s

/-! ## Start sequence (R9) -/

/-- SPIN_UP is entered at `t` (R9): duty 40, the bridge at the Hall code's state, the control period and spin-up timers
started. -/
def enterSpinUp (t : Nat) (s : State) : State :=
  let s := s.setDrive { s.drive with state := .spinUp, duty := 40, nEff := 0 }
  s.setMotor
    { s.motor with
      period := some (t + ms 2)
      spinUp := some (t + ms 500)
      bridge := bridgeOfCode s.pins.hall
      pwmDuty := 40
      pwmThreshold := s.driveCfg.threshold
      pwmNext := some (t + us 25)
      tripped := false }

/-- The pump settle timer expires (R9). The Hall code it reads comes with the command: where it is not the one last seen, the
pins take it without a Hall edge (DESIGN CHOICE, log entry 41). -/
def pumpSettled (good : Bool) (hall : BitVec 3) (t : Nat) (s : State) : State :=
  let s := s.setPins { s.pins with hall := hall }
  let s := s.setMotor { s.motor with settle := none }
  if !good then raise .gateSupplyFault none (makeStop .pumpFault s)
  else if hallValid hall then enterSpinUp t s
  else raise .hallFault (some (.number hall.toNat)) (makeStop .hallFault s)

/-! ## Stops of the drive's own (R12, R13, R18, R20, R43) -/

/-- STALL: the stop, then MOTOR_STALL with n_meas at the stop (R12, R13, R24). -/
def stallStop (s : State) : State := raise .motorStall (some (.number s.drive.nMeas)) (makeStop .stall s)

/-- OVERCURRENT: the stop, then DRIVE_OVERCURRENT with the threshold (R18, R24). -/
def overcurrentStop (s : State) : State :=
  raise .driveOvercurrent (some (.number s.motor.pwmThreshold)) (makeStop .overcurrent s)

/-- DERATED_OUT: the stop, then in handle role PACK_EXHAUSTED with Vmin if the limiting term was CELL (R43, R44). -/
def deratedStop (s : State) : State :=
  let stopped := makeStop .deratedOut s
  if (s.role == .handle) && (s.drive.limit == .cell) then raise .packExhausted (some (.number s.pack.vmin)) stopped
  else stopped

/-! ## The control period (R33) -/

/-- The drive's record with n_eff ramped, and the clog counts cleared while it differs from n_tgt (R40, R45). -/
def rampStep (s : State) : State :=
  let n := ramp s.drive.nEff s.drive.nTgt
  let d := s.drive
  s.setDrive
    { d with
      nEff := n
      suspect := if n = d.nTgt then d.suspect else 0
      clear := if n = d.nTgt then d.clear else 0 }

/-- Steps 2 and 3: the posts for the next period, and in a fresh period P_meas computed and published (R20, R39). -/
def powerStep (fresh : Bool) (s : State) : State :=
  if fresh then
    let p := measuredPower (s.chan .packV).value (s.chan .packI).value
    publish .pMeas p (s.setDrive { s.drive with pMeas := p, stale := 0 })
  else s

/-- Step 6: the duty step of a fresh period (R41, R42). -/
def dutyStepNow (fresh : Bool) (s : State) : State :=
  let d := s.drive
  if fresh then s.setDrive { d with duty := newDuty d.duty (dutyStep d.pMeas d.pCeil d.nEff d.nMeas) } else s

/-- The derated-out count of this period (R43). -/
def deratedCount (s : State) : Nat :=
  if feedValid s then (if s.drive.pCeil < 30 then s.drive.derated + 1 else 0)
  else s.drive.derated

/-- CLOG is raised and both counts cleared (R47). -/
def raiseClog (s : State) : State :=
  raise .clog (some (.clog s.drive.pMeas (expectedNow s))) (s.setDrive { s.drive with suspect := 0, clear := 0 })

/-- CLOG is ended and both counts cleared (R47). -/
def endClog (s : State) : State := endCond .clog (s.setDrive { s.drive with suspect := 0, clear := 0 })

/-- Clog detection in a period in which it runs (R46, R47). -/
def clogWork (s : State) : State :=
  let d := s.drive
  if condActive s .clog then
    if suspectNow s then s.setDrive { d with clear := 0 }
    else if clearNow s then
      if d.clear + 1 ≥ 150 then endClog s
      else s.setDrive { d with clear := d.clear + 1, suspect := 0 }
    else s
  else if suspectNow s then
    if d.suspect + 1 ≥ 150 then raiseClog s
    else s.setDrive { d with suspect := d.suspect + 1, clear := 0 }
  else if clearNow s then s.setDrive { d with suspect := 0 }
  else s

/-- Clog detection runs in this REGULATE period (R45): fresh, n_eff at n_tgt, n_meas at least half the reference. -/
def clogRuns (fresh : Bool) (s : State) : Bool :=
  fresh && decide (s.drive.nEff = s.drive.nTgt) && decide (s.drive.nMeas ≥ ((levelUsed s).speed).tdiv 2)

/-- The low-speed count of a REGULATE period (R13). -/
def lowSpeedWork (s : State) : State :=
  if s.drive.nMeas < 5000 then
    let s := s.setDrive { s.drive with lowSpeed := s.drive.lowSpeed + 1 }
    if s.drive.lowSpeed ≥ 50 then stallStop s else s
  else s.setDrive { s.drive with lowSpeed := 0 }

/-- Step 8, by the state at the beginning of the period (R33). -/
def stateWork (start : DriveState) (fresh : Bool) (s : State) : State :=
  match start with
  | .spinUp => if s.drive.nEff = s.drive.nTgt then enterRegulate s else s
  | .regulate => lowSpeedWork (if clogRuns fresh s then clogWork s else s)
  | .stopped => s
  | .priming => s
  | .coasting => s

/-- The stale count at the end of a stale period (R20, log entry 9): at 25 the drive stops. -/
def staleWork (fresh : Bool) (s : State) : State :=
  if fresh || !s.drive.state.switching then s
  else
    let s := s.setDrive { s.drive with stale := s.drive.stale + 1 }
    if s.drive.stale ≥ 25 then makeStop .measureStale s else s

/-- Steps 1 to 6 of a control period in SPIN_UP or REGULATE (R33); the budget follows the recomputed ceiling (R165). -/
def regulator (fresh : Bool) (s : State) : State :=
  dutyStepNow fresh (rampStep (budget (setCeiling (termsNow s) (powerStep fresh s))))

/-- A control period in SPIN_UP or REGULATE (R33). -/
def regulatePeriod (s : State) : State :=
  let start := s.drive.state
  let s := postAll .drive [.packV, .packI] (refreshTarget s)
  let fresh := driveFresh s
  let s := regulator fresh s
  let s := s.setDrive { s.drive with derated := deratedCount s }
  if s.drive.derated ≥ 50 then deratedStop s
  else staleWork fresh (stateWork start fresh s)

/-- The control period timer expires at `t` (R33): the regulator's work, or in COASTING the coast test (R23). -/
def controlPeriodAt (t : Nat) (s : State) : State :=
  let s := s.setMotor { s.motor with period := some (t + ms 2) }
  match s.drive.state with
  | .spinUp => regulatePeriod s
  | .regulate => regulatePeriod s
  | .coasting => if s.drive.nMeas = 0 then coastEnd s else s
  | .stopped => s
  | .priming => s

/-! ## Commutation and speed (R14 to R16) -/

/-- T_rev of a ring of intervals (R15). -/
def turnTime (ring : List Nat) : Nat :=
  if ring.length ≥ 6 then ring.sum else ring.sum * 6 / ring.length

/-- n_meas of a ring of intervals (R15); free where the division has no result (log entry 6). -/
def speedOfRing (ring : List Nat) : Int :=
  if turnTime ring = 0 then Config.speedOfZeroTurn ring.length else (480000000 / turnTime ring : Nat)

/-- n_meas is recomputed and published (R15); at 10,000 rpm or more the spin-up timer is cancelled (R12). -/
def publishSpeed (n : Int) (s : State) : State :=
  let s := s.setDrive { s.drive with nMeas := n }
  let s := if n ≥ 10000 then s.setMotor { s.motor with spinUp := none } else s
  publish .nMeas n s

/-- The ring with an interval appended, the oldest dropped if it already holds 6 (R15). -/
def appendInterval (ring : List Nat) (x : Nat) : List Nat :=
  (if ring.length ≥ 6 then ring.drop 1 else ring) ++ [x]

/-- The new code is the next step forward from the old one (R14). -/
def normalEdge (old new : BitVec 3) : Bool :=
  match hallStep old, hallStep new with
  | some a, some b => decide (b = a + 1)
  | _, _ => false

/-- The free-running 32-bit count of the 8 MHz clock, 125 ns a count (R15). It is read off the part's time, so that it goes
on while the fast clock is off (DESIGN CHOICE, log entry 38). -/
def State.edgeStamp (s : State) : BitVec 32 := BitVec.ofNat 32 (s.now / 125)

/-- Speed measurement at an edge to a valid code (R15). -/
def speedEdge (old new : BitVec 3) (stamp : BitVec 32) (s : State) : State :=
  match s.motor.refStamp with
  | none => s.setMotor { s.motor with refStamp := some stamp }
  | some r =>
    if normalEdge old new then
      let ring := appendInterval s.motor.ring (stamp - r).toNat
      publishSpeed (speedOfRing ring) (s.setMotor { s.motor with ring := ring, refStamp := some stamp })
    else s.setMotor { s.motor with refStamp := some stamp }

/-- An edge to an invalid code (R14, R15). -/
def invalidEdge (code : BitVec 3) (s : State) : State :=
  let s := s.setMotor { s.motor with refStamp := none }
  let s := if s.drive.state.switching then makeStop .hallFault s else s
  raise .hallFault (some (.number code.toNat)) s

/-- A valid edge ends HALL_FAULT while the drive is STOPPED (R133). -/
def endHallFault (s : State) : State := if s.drive.state == .stopped then endCond .hallFault s else s

/-- A Hall edge (R14 to R16): the edge timeout restarts, the bridge is commutated while it switches, the speed is
measured. An edge whose code is the present one is taken as a skipped edge (DESIGN CHOICE, log entry 32). -/
def hallEdgeTaken (code : BitVec 3) (s : State) : State :=
  let old := s.pins.hall
  let s := s.setPins { s.pins with hall := code }
  let s := s.setMotor { s.motor with edge := some (s.after (ms 20)) }
  if hallValid code then
    let s := if s.drive.state.switching then s.setMotor { s.motor with bridge := bridgeOfCode code } else s
    endHallFault (speedEdge old code s.edgeStamp s)
  else invalidEdge code s

/-- The edge timeout expires (R16). -/
def edgeTimedOut (s : State) : State :=
  let s := s.setMotor { s.motor with ring := [], refStamp := none, edge := none }
  publishSpeed 0 s

/-! ## PWM and overcurrent (R17, R18) -/

/-- A PWM period starts at `t` (R17, R18): a period that ended without a trip clears the count; the new duty and threshold
take effect. -/
def pwmStart (t : Nat) (s : State) : State :=
  if s.drive.state.switching then
    let s := if s.motor.tripped then s else s.setDrive { s.drive with overcurrent := 0 }
    s.setMotor
      { s.motor with
        tripped := false
        pwmDuty := s.drive.duty
        pwmThreshold := s.driveCfg.threshold
        pwmNext := some (t + us 25) }
  else s.setMotor { s.motor with pwmNext := none }

/-- The comparator trips during a pulse (R17, R18): the pulse ends and the period counts once. -/
def tripTaken (s : State) : State :=
  if s.drive.state.switching && !s.motor.tripped then
    let s := s.setMotor { s.motor with tripped := true }
    let s := s.setDrive { s.drive with overcurrent := s.drive.overcurrent + 1 }
    if s.drive.overcurrent ≥ 16 then overcurrentStop s else s
  else s

/-! ## Single steps of the counts, and the commands -/

/-- HALL_EDGE (R14 to R16): the edge falls `counts` counts of the 8 MHz clock from now, so that edges within one tick of
time have counts of their own (R15; DESIGN CHOICE, log entry 38). With the fast clock off, or before start-up completes,
only the pins change (R190). -/
def hallEdge (code counts : BitVec 3) (s : State) : State :=
  if s.fastUp then hallEdgeTaken code (s.advanceTo (s.after (125 * counts.toNat)))
  else s.setPins { s.pins with hall := code }

/-- OVERCURRENT_LIMIT: the sixteenth tripped period in a row (R18). In a period that has tripped already, and so is counted,
nothing happens (DESIGN CHOICE, log entry 7). -/
def overcurrentReached (s : State) : State :=
  if s.drive.state.switching && !s.motor.tripped && decide (s.drive.overcurrent + 1 ≥ 16) then overcurrentStop s else s

/-- The pump goes not good while the bridge switches (R19). -/
def pumpLost (s : State) : State :=
  if s.drive.state.switching then raise .gateSupplyFault none (makeStop .pumpFault s) else s

/-- The twenty-fifth stale period in a row (R20). -/
def staleReached (s : State) : State :=
  if s.drive.state.switching && !driveFresh s && decide (s.drive.stale + 1 ≥ 25) then makeStop .measureStale s else s

/-- The fiftieth slow period in a row (R13). -/
def lowSpeedReached (s : State) : State :=
  if (s.drive.state == .regulate) && decide (s.drive.nMeas < 5000) && decide (s.drive.lowSpeed + 1 ≥ 50) then
    stallStop s
  else s

/-- The fiftieth period in a row with the ceiling below 30 W (R43, R44). -/
def deratedReached (s : State) : State :=
  if s.drive.state.switching && feedValid s && decide (s.drive.pCeil < 30) && decide (s.drive.derated + 1 ≥ 50) then
    deratedStop s
  else s

/-- CLOG_SUSPECT_LIMIT: the hundred and fiftieth suspect period in a row (R46, R47), where clog detection runs (R45, log
entry 7). -/
def clogSuspectReached (s : State) : State :=
  if (s.drive.state == .regulate) && clogRuns (driveFresh s) s && !condActive s .clog && suspectNow s &&
      decide (s.drive.suspect + 1 ≥ 150) then
    raiseClog s
  else s

/-- CLOG_CLEAR_LIMIT: the hundred and fiftieth clear period in a row (R47), where clog detection runs (R45, log entry 7). -/
def clogClearReached (s : State) : State :=
  if (s.drive.state == .regulate) && clogRuns (driveFresh s) s && condActive s .clog && !suspectNow s && clearNow s &&
      decide (s.drive.clear + 1 ≥ 150) then endClog s
  else s

/-- PUMP_SETTLE_EXPIRY (R9). -/
def execPumpSettleExpiry (pumpGood : Bool) (hall : BitVec 3) (s : State) : Host.Outcome State Fault Refusal :=
  .next (onExpiry s.motor.settle (pumpSettled pumpGood hall) s)

/-- CONTROL_PERIOD (R33, R23). -/
def execControlPeriod (s : State) : Host.Outcome State Fault Refusal :=
  .next (onExpiry s.motor.period controlPeriodAt s)

/-- SPIN_UP_TIMEOUT (R12). -/
def execSpinUpTimeout (s : State) : Host.Outcome State Fault Refusal :=
  .next (onExpiry s.motor.spinUp (fun _ => stallStop) s)

/-- COAST_TIMER_EXPIRY (R23). -/
def execCoastTimerExpiry (s : State) : Host.Outcome State Fault Refusal :=
  .next (onExpiry s.motor.coast (fun _ => coastEnd) s)

/-- HALL_EDGE (R14 to R16). -/
def execHallEdge (code counts : BitVec 3) (s : State) : Host.Outcome State Fault Refusal :=
  .next (hallEdge code counts s)

/-- EDGE_TIMEOUT (R16). -/
def execEdgeTimeout (s : State) : Host.Outcome State Fault Refusal :=
  .next (if s.fastUp then onExpiry s.motor.edge (fun _ => edgeTimedOut) s else s)

/-- OVERCURRENT_TRIP (R17, R18). -/
def execOvercurrentTrip (s : State) : Host.Outcome State Fault Refusal := .next (tripTaken s)

/-- OVERCURRENT_LIMIT (R18). -/
def execOvercurrentLimit (s : State) : Host.Outcome State Fault Refusal := .next (overcurrentReached s)

/-- PUMP_NOT_GOOD (R19). -/
def execPumpNotGood (s : State) : Host.Outcome State Fault Refusal := .next (pumpLost s)

/-- STALE_LIMIT (R20). -/
def execStaleLimit (s : State) : Host.Outcome State Fault Refusal := .next (staleReached s)

/-- LOW_SPEED_LIMIT (R13). -/
def execLowSpeedLimit (s : State) : Host.Outcome State Fault Refusal := .next (lowSpeedReached s)

/-- DERATED_OUT_LIMIT (R43, R44). -/
def execDeratedOutLimit (s : State) : Host.Outcome State Fault Refusal := .next (deratedReached s)

/-- CLOG_SUSPECT_LIMIT (R47). -/
def execClogSuspectLimit (s : State) : Host.Outcome State Fault Refusal := .next (clogSuspectReached s)

/-- CLOG_CLEAR_LIMIT (R47). -/
def execClogClearLimit (s : State) : Host.Outcome State Fault Refusal := .next (clogClearReached s)

/-- PWM_PERIOD_START (R17, R18). -/
def execPwmPeriodStart (s : State) : Host.Outcome State Fault Refusal := .next (onExpiry s.motor.pwmNext pwmStart s)

end Sys2Proof.Machine
end

