-- ==== Sys2Proof/Machine/Power.lean ====
section
/-! DEFINITION. Clocks, standby and start-up (chapter 11): the resets, the completion of start-up, standby's entry and its
wake, the edge on the host line, the settle of the fast clock, and the qualified trigger and docking events, which may
wake the part. -/

namespace Sys2Proof.Machine

/-! ## Start-up (R188, R189) -/

/-- **EVAC_FIT** is sampled in dock role only (R188). -/
def sampledFit (role : Role) (fit : Bool) : Bool :=
  match role with
  | .handle => false
  | .dock => fit

/-- A reset with the straps sampled (R188 step 1), whatever its cause: every block at its reset value, start-up running. -/
def resetBy (cause : StartCause) (s : State) : State :=
  State.fresh cause s.pins.role (sampledFit s.pins.role s.pins.fit) s.trim s.pins s.free s.pending

/-- The straps stand at these levels (R188, log entry 29). -/
def strapped (role : Role) (fit : Bool) (s : State) : State := s.setPins { s.pins with role := role, fit := fit }

/-- The inputs that already stand off their qualified level open their candidates as start-up completes (R3, R143,
R161). -/
def senseInputs (s : State) : State :=
  match s.role with
  | .handle => contactSeen (rejector s)
  | .dock => stickSeen s

/-- The silence timer starts as start-up completes, in handle role (R181). -/
def startSilence (s : State) : State :=
  match s.role with
  | .handle => s.setPort { s.port with silence := some (s.after (ms 500)) }
  | .dock => s

/-- The blocks at their reset values, with the trim values of R189, and the part ACTIVE (R188 steps 3 to 5). -/
def startedState (passed : Bool) (s : State) : State :=
  let t := trimInUse s.trim passed
  let f := State.fresh s.power.cause s.role s.evacFit s.trim s.pins s.free s.pending
  ((f.setSeq (resetSequencer t)).setFill (resetFill t)).setPower
    { f.power with state := .active, fast := .running, trimPassed := passed }

/-- Start-up completes (R188 step 5): STARTED, TRIM_INVALID if the check failed, the first expiries, the silence timer,
and the inputs. -/
def startUp (passed : Bool) (s : State) : State :=
  let s := startedState passed s
  let s := report .started s.power.cause.code [byteOf (roleCode s.role), boolByte passed] s
  let s := if passed then s else raise .trimInvalid none s
  senseInputs (startSilence (scanExpiry 0 (sweepExpiry 0 s)))

/-! ## Standby (R191, R192) -/

/-- Standby is entered (R191): its time noted, the scan aborted and its timer stopped, the balance set emptied, the dock
link and the receiver at rest, the sweep period moved, and the fast clock off unless a sweep in flight or the queue still
needs it. With no sweep in flight the entries that wait are held for the next standby sweep (R128, log entry 13). -/
def enterStandby (s : State) : State :=
  let s := s.setSeq { s.seq with held := s.monitor.sweep.isNone }
  let s := s.setPower { s.power with state := .standby, standbyPending := false, standbyTime := s.partTime }
  let s := s.setFill { s.fill with scan := none, next := none }
  let s := s.setSession { s.session with balance := [] }
  let s := s.setLink (linkAsleep s.link)
  let s := s.setPort { s.port with rx := .hunt, gap := none }
  stopFastClock (refreshSweep s)

/-- The cause a waiting event gives to WAKE (R193). -/
def Waiting.cause (w : Waiting) : WakeCause :=
  match w with
  | .press => .trigger
  | .release => .trigger
  | .docked => .docked
  | .undocked => .undocked
  | .hostLine => .hostLine

/-- The cause of a wake: the first waiting event's, or else a sweep's raise (R193). -/
def wakeCause (l : List Waiting) : WakeCause :=
  match l with
  | [] => .sweepCondition
  | w :: _ => w.cause

/-- A waiting event is taken with its ordinary effects (R193 step 2). -/
def takeWaiting (w : Waiting) (s : State) : State :=
  match w with
  | .press => pressEvent s
  | .release => releaseEvent s
  | .docked => dockedEvent s
  | .undocked => undockedEvent s
  | .hostLine => s

/-- The waiting events are taken in order. -/
def takeAllWaiting (l : List Waiting) (s : State) : State :=
  match l with
  | [] => s
  | w :: rest => takeAllWaiting rest (takeWaiting w s)

/-- Step 3 of a wake (R193, R103, R158): sweep period, scan timer and dock link resume. -/
def resumeActive (s : State) : State :=
  let s := refreshSweep s
  let s := s.setFill { s.fill with periodMs := scanPeriodMs s }
  linkResume (scanExpiry s.now s)

/-- The part goes ACTIVE (R193): WAKE, the waiting events, the periods, the receiver in HUNT. -/
def goActive (s : State) : State :=
  let waiting := s.power.waiting
  let s := s.setPower { s.power with state := .active, waiting := [] }
  let s := report .wake (wakeCause waiting).code (timeBytes s.power.standbyTime) s
  let s := resumeActive (takeAllWaiting waiting s)
  s.setPort { s.port with rx := .hunt, gap := none }

/-- A wake event that finds the fast clock running in standby takes the part ACTIVE at once (R193), also where it runs for
held entries or a conversion left over rather than for a sweep (DEDUCED, log entry 12). -/
def wakeNow (s : State) : State :=
  if s.asleep && (s.power.fast == .running) && !s.power.waiting.isEmpty then goActive s else s

/-- The fast clock has settled (R190, R193): waiting wake events take the part ACTIVE, and the arbiter looks at the queue
(R123). The wake with its events comes first and the arbiter's choice last (DEDUCED, log entry 36). During start-up only
the settle ends. -/
def settleEnds (s : State) : State :=
  match s.power.fast with
  | .off => s
  | .running => s
  | .settling t =>
    let s := (s.advanceTo t).setPower { s.power with fast := .running }
    let s := if s.asleep && !s.power.waiting.isEmpty then goActive s else s
    stopFastClock (arbiter s)

/-- The time of one byte on **HP_RX**, 10 bits at 230,400 bit/s (R175), in whole ns. -/
def hostByteNs : Nat := 43402

/-- A falling edge on **HP_RX** (R191, R193): in standby the start bit of a byte that is not received, unless it falls
within such a byte, and a wake event, of which one waits at most; while standby is pending it cancels standby (log entry
12: the edge, not the frame, is the command, and the byte it starts lasts 10 bits). -/
def hostEdge (s : State) : State :=
  if s.asleep then
    let s := if byteLost s then s else s.setPort { s.port with wakeByte := some (s.after hostByteNs) }
    if s.power.waiting.contains .hostLine then s else wakeNow (waitForWake .hostLine s)
  else cancelStandby .hostLine s

/-! ## Docking (R145, R146, R191, R193) -/

/-- DOCKED qualifies: the docking state changes; the effects come now, or once the part is active again. -/
def dockedQualifies (s : State) : State :=
  let s := s.setLink { s.link with docked := true, candidate := none }
  if s.asleep then wakeNow (waitForWake .docked s) else dockedEvent (cancelStandby .docked s)

/-- UNDOCKED qualifies, in the same way. -/
def undockedQualifies (s : State) : State :=
  let s := s.setLink { s.link with docked := false, candidate := none }
  if s.asleep then wakeNow (waitForWake .undocked s) else undockedEvent (cancelStandby .undocked s)

/-! ## The commands -/

/-- POWER_ON_RESET (R188). -/
def execPowerOnReset (role : Role) (evacFit : Bool) (s : State) : Host.Outcome State Fault Refusal :=
  .next (resetBy .powerOn (strapped role evacFit s))

/-- BROWN_OUT_RESET (R188). -/
def execBrownOutReset (role : Role) (evacFit : Bool) (s : State) : Host.Outcome State Fault Refusal :=
  .next (resetBy .brownOut (strapped role evacFit s))

/-- START_UP_COMPLETE (R188, R189), while start-up runs. -/
def execStartUpComplete (trimPassed : Bool) (s : State) : Host.Outcome State Fault Refusal :=
  .next (if s.up then s else startUp trimPassed s)

/-- TRIGGER_PIN_CHANGE (R3). -/
def execTriggerPinChange (pressed : Bool) (s : State) : Host.Outcome State Fault Refusal :=
  .next (wakeNow (trigPinChange pressed s))

/-- TRIGGER_QUALIFIED (R3). -/
def execTriggerQualified (s : State) : Host.Outcome State Fault Refusal := .next (wakeNow (trigQualified s))

/-- DOCKED_QUALIFIED (R145). -/
def execDockedQualified (s : State) : Host.Outcome State Fault Refusal :=
  .next (if s.link.docked then s else onExpiry s.link.candidate (fun _ => dockedQualifies) s)

/-- UNDOCKED_QUALIFIED (R146). -/
def execUndockedQualified (s : State) : Host.Outcome State Fault Refusal :=
  .next (if s.link.docked then onExpiry s.link.candidate (fun _ => undockedQualifies) s else s)

/-- HOST_LINE_EDGE (R191, R193). -/
def execHostLineEdge (s : State) : Host.Outcome State Fault Refusal := .next (hostEdge s)

/-- FAST_CLOCK_SETTLED (R190, R193). -/
def execFastClockSettled (s : State) : Host.Outcome State Fault Refusal := .next (settleEnds s)

end Sys2Proof.Machine
end

