-- ==== Sys2Proof/Machine/Pack.lean ====
section
/-! DEFINITION. The pack monitor and, in dock role, the supply monitor (chapter 3): the completion of a sweep, the charge
counter, the tap check, the protection thresholds, BUS_LOW and CONFIGURE_PACK. -/

namespace Sys2Proof.Machine

/-! ## The pack record (R53) -/

/-- The value delivered for a channel in the sweep. -/
def sweepValue (l : List Delivery) (c : Chan) : Int :=
  match l.find? (fun d => d.chan == c) with
  | some d => d.value
  | none => 0

/-- The mark delivered for a channel in the sweep. -/
def sweepMark (l : List Delivery) (c : Chan) : Mark :=
  match l.find? (fun d => d.chan == c) with
  | some d => d.mark
  | none => .none

/-- The lowest value and the first place, counted from `i`, that gave it. -/
def lowest (best : Int × Nat) (i : Nat) (l : List Int) : Int × Nat :=
  match l with
  | [] => best
  | x :: rest => lowest (if x < best.1 then (x, i) else best) (i + 1) rest

/-- The highest value and the first place, counted from `i`, that gave it. -/
def highest (best : Int × Nat) (i : Nat) (l : List Int) : Int × Nat :=
  match l with
  | [] => best
  | x :: rest => highest (if x > best.1 then (x, i) else best) (i + 1) rest

/-- The seven cell voltages of a sweep. -/
def sweepCells (l : List Delivery) : Vector Int 7 :=
  #v[sweepValue l .cell1, sweepValue l .cell2, sweepValue l .cell3, sweepValue l .cell4, sweepValue l .cell5,
     sweepValue l .cell6, sweepValue l .cell7]

/-- The pack record of a completed sweep (R53). -/
def packRecord (l : List Delivery) (now : Time) : PackRec :=
  let cells := sweepCells l
  let lo := lowest (cells[0], 1) 1 cells.toList
  let hi := highest (cells[0], 1) 1 cells.toList
  { cells := cells
    vmin := lo.1
    vminCell := lo.2
    vmax := hi.1
    vmaxCell := hi.2
    packMv := sweepValue l .packV
    packMa := sweepValue l .packI
    packT := sweepValue l .packT
    bridgeT := sweepValue l .bridgeT
    time := now
    valid := true
    packMark := sweepMark l .packT
    bridgeMark := sweepMark l .bridgeT }

/-- The supply record of a completed sweep (R68). -/
def supplyRecord (l : List Delivery) (now : Time) : SupplyRec :=
  { busMv := sweepValue l .busV
    ambientT := sweepValue l .packT
    bridgeT := sweepValue l .bridgeT
    time := now
    valid := true
    ambientMark := sweepMark l .packT
    bridgeMark := sweepMark l .bridgeT }

/-! ## Charge counter (R62 to R66) -/

/-- The rest table of R64: a Vmin to a whole percent. -/
def restPercent (v : Int) : Int :=
  if v ≤ 3000 then 0
  else if v < 3450 then ((v - 3000) * 10).tdiv 450
  else if v < 3650 then 10 + ((v - 3450) * 30).tdiv 200
  else if v < 3850 then 40 + ((v - 3650) * 30).tdiv 200
  else if v < 4050 then 70 + ((v - 3850) * 20).tdiv 200
  else if v < 4200 then 90 + ((v - 4050) * 10).tdiv 150
  else 100

/-- The counter after Q is bounded and SoC computed (R63). -/
def boundCounter (c : Counter) : Counter :=
  let full := c.capacity * 1000
  let q := clampInt c.q 0 full
  { c with q := q, residual := if q = c.q then c.residual else 0, soc := (q * 100).tdiv full }

/-- The first estimate (R64). -/
def firstEstimate (vmin : Int) (c : Counter) : Counter :=
  boundCounter { c with q := restPercent vmin * c.capacity * 10, residual := 0, origin := .voltage }

/-- The origin after `moved` µAh moved into Q (R65). -/
def originAfter (o : Origin) (moved : Int) : Origin :=
  if moved ≠ 0 ∧ (o = .voltage ∨ o = .full) then .counted else o

/-- The counting step (R62): the current of the completing sweep over `dt` ms. -/
def countCharge (packMa : Int) (dt : Nat) (c : Counter) : Counter :=
  let r := c.residual - packMa * dt
  let moved := r.tdiv 3600
  boundCounter { c with q := c.q + moved, residual := r - moved * 3600, origin := originAfter c.origin moved }

/-- Step 3 of a sweep completion (R54): the estimate or the count, and SoC published. -/
def counterStep (first : Bool) (dt : Nat) (s : State) : State :=
  let c := if first then firstEstimate s.pack.vmin s.counter else countCharge s.pack.packMa dt s.counter
  publish .soc c.soc (s.setCounter c)

/-- The counter after a change of capacity (R66). -/
def rescale (capacity : Int) (c : Counter) : Counter :=
  if capacity = c.capacity then c
  else boundCounter { c with q := (c.q * capacity).tdiv c.capacity, capacity := capacity }

/-- CONFIGURE_PACK (R66). -/
def reqConfigurePack (p : List Byte) (s : State) : State × Answer :=
  let given : Int := num2 p 0
  let capacity := clampInt given 1000 6000
  (s.setCounter (rescale capacity s.counter), okIf (decide (capacity ≠ given)) (le2 capacity))

/-! ## The tap check (R55) -/

/-- The tap sum minus the pack voltage (R55). -/
def tapDifference (p : PackRec) : Int :=
  p.cells[0] + p.cells[1] + p.cells[2] + p.cells[3] + p.cells[4] + p.cells[5] + p.cells[6] - p.packMv

/-- The sweep is mismatched (R55). -/
def mismatched (p : PackRec) : Bool := decide (tapDifference p < -300 ∨ tapDifference p > 300)

/-- The monitor's counts replaced. -/
def setCounts (c : PackCounts) (s : State) : State := s.setMonitor { s.monitor with counts := c }

/-- How a raise is taken: alone, or within a sweep completion. -/
abbrev Raiser := CondKind → Option Detail → State → State

/-- CELL_TAP_FAULT is raised and its count cleared (R55). -/
def raiseTapFault (by_ : Raiser) (s : State) : State :=
  by_ .cellTapFault (some (.number (tapDifference s.pack))) (setCounts { s.monitor.counts with mismatch := 0 } s)

/-- CELL_TAP_FAULT is ended and its count cleared (R55). -/
def endTapFault (s : State) : State := endCond .cellTapFault (setCounts { s.monitor.counts with matched := 0 } s)

/-- The tap check of a sweep (R55). -/
def tapCheck (s : State) : State :=
  let c := s.monitor.counts
  if condActive s .cellTapFault then
    if mismatched s.pack then setCounts { c with matched := 0 } s
    else if c.matched + 1 ≥ 3 then endTapFault s
    else setCounts { c with matched := c.matched + 1 } s
  else if mismatched s.pack then
    if c.mismatch + 1 ≥ 3 then raiseTapFault raiseInSweep s else setCounts { c with mismatch := c.mismatch + 1 } s
  else setCounts { c with mismatch := 0 } s

/-! ## Protection thresholds (R56 to R60) -/

/-- The condition of a threshold (R56). -/
def thresholdKind (k : Threshold) : CondKind :=
  match k with
  | .cellOvervolt => .cellOvervolt
  | .cellUndervolt => .cellUndervolt
  | .packOvertemp => .packOvertemp
  | .bridgeOvertemp => .bridgeOvertemp
  | .tempSensorFault => .tempSensorFault
  | .cellImbalance => .cellImbalance

/-- The persistence of a threshold in sweeps (R56). -/
def persistence (k : Threshold) : Nat :=
  match k with
  | .cellOvervolt => 2
  | .cellUndervolt => 3
  | .packOvertemp => 2
  | .bridgeOvertemp => 2
  | .tempSensorFault => 1
  | .cellImbalance => 3

/-- A threshold is evaluated in a role (R56, R68). -/
def thresholdInRole (k : Threshold) (r : Role) : Bool :=
  match r with
  | .handle => true
  | .dock => k == .bridgeOvertemp || k == .tempSensorFault

/-- The mark of the pack, in dock role the ambient, thermistor in the last sweep. -/
def packMarkNow (s : State) : Mark :=
  match s.role with
  | .handle => s.pack.packMark
  | .dock => s.supply.ambientMark

/-- The mark of the bridge thermistor in the last sweep. -/
def bridgeMarkNow (s : State) : Mark :=
  match s.role with
  | .handle => s.pack.bridgeMark
  | .dock => s.supply.bridgeMark

/-- A thermistor value of the last sweep came with a mark (R59). -/
def marked (s : State) : Bool := packMarkNow s != .none || bridgeMarkNow s != .none

/-- The raise test of a threshold on the record of the role (R56). -/
def raiseTest (k : Threshold) (s : State) : Bool :=
  match k with
  | .cellOvervolt => decide (s.pack.vmax ≥ 4250)
  | .cellUndervolt => decide (s.pack.vmin ≤ 2800)
  | .packOvertemp => decide (s.pack.packT ≥ 720)
  | .bridgeOvertemp => decide (feedBridgeT s ≥ 1000)
  | .tempSensorFault => marked s
  | .cellImbalance => decide (s.pack.vmax - s.pack.vmin ≥ 300)

/-- The end test of a threshold (R56). -/
def endTest (k : Threshold) (s : State) : Bool :=
  match k with
  | .cellOvervolt => decide (s.pack.vmax ≤ 4150)
  | .cellUndervolt => decide (s.pack.vmin ≥ 3000)
  | .packOvertemp => decide (s.pack.packT ≤ 600)
  | .bridgeOvertemp => decide (feedBridgeT s ≤ 850)
  | .tempSensorFault => !marked s
  | .cellImbalance => decide (s.pack.vmax - s.pack.vmin ≤ 200)

/-- The detail of a threshold's raise (R56, R59). -/
def thresholdDetail (k : Threshold) (s : State) : Detail :=
  match k with
  | .cellOvervolt => .cellVolt s.pack.vmaxCell s.pack.vmax
  | .cellUndervolt => .cellVolt s.pack.vminCell s.pack.vmin
  | .packOvertemp => .number s.pack.packT
  | .bridgeOvertemp => .number (feedBridgeT s)
  | .tempSensorFault =>
    if packMarkNow s != .none then .sensor .packT (packMarkNow s) else .sensor .bridgeT (bridgeMarkNow s)
  | .cellImbalance => .imbalance (s.pack.vmax - s.pack.vmin) s.pack.vmaxCell s.pack.vminCell

/-- The raise count of a threshold (R57). -/
def raiseCount (k : Threshold) (c : PackCounts) : Nat :=
  match k with
  | .cellOvervolt => c.cellOvervolt
  | .cellUndervolt => c.cellUndervolt
  | .packOvertemp => c.packOvertemp
  | .bridgeOvertemp => c.bridgeOvertemp
  | .tempSensorFault => c.tempSensor
  | .cellImbalance => c.cellImbalance

/-- The raise count of a threshold replaced. -/
def withRaiseCount (k : Threshold) (n : Nat) (c : PackCounts) : PackCounts :=
  match k with
  | .cellOvervolt => { c with cellOvervolt := n }
  | .cellUndervolt => { c with cellUndervolt := n }
  | .packOvertemp => { c with packOvertemp := n }
  | .bridgeOvertemp => { c with bridgeOvertemp := n }
  | .tempSensorFault => { c with tempSensor := n }
  | .cellImbalance => { c with cellImbalance := n }

/-- The sweep is at rest (R56). -/
def sweepAtRest (s : State) : Bool := (s.drive.state == .stopped) && currentAtRest s

/-- A threshold is evaluated at this sweep: CELL_IMBALANCE at rest only (R60). -/
def evaluated (k : Threshold) (s : State) : Bool :=
  match k with
  | .cellImbalance => sweepAtRest s
  | _ => true

/-- The threshold's condition is raised and its count cleared (R57). -/
def raiseThreshold (by_ : Raiser) (k : Threshold) (s : State) : State :=
  by_ (thresholdKind k) (some (thresholdDetail k s)) (setCounts (withRaiseCount k 0 s.monitor.counts) s)

/-- TEMP_SENSOR_FAULT is ended and its count cleared (R59). -/
def endSensorFault (s : State) : State :=
  endCond .tempSensorFault (setCounts { s.monitor.counts with sensorEnd := 0 } s)

/-- The end of an ACTIVE threshold condition (R57): TEMP_SENSOR_FAULT after three sweeps without a mark (R59). -/
def thresholdEnd (k : Threshold) (s : State) : State :=
  match k with
  | .tempSensorFault =>
    let c := s.monitor.counts
    if marked s then setCounts { c with sensorEnd := 0 } s
    else if c.sensorEnd + 1 ≥ 3 then endSensorFault s
    else setCounts { c with sensorEnd := c.sensorEnd + 1 } s
  | _ => if endTest k s then endCond (thresholdKind k) s else s

/-- A threshold at a sweep completion (R57). -/
def evalThreshold (s : State) (k : Threshold) : State :=
  if evaluated k s then
    if condActive s (thresholdKind k) then thresholdEnd k s
    else if raiseTest k s then
      let n := raiseCount k s.monitor.counts + 1
      if n ≥ persistence k then raiseThreshold raiseInSweep k s
      else setCounts (withRaiseCount k n s.monitor.counts) s
    else setCounts (withRaiseCount k 0 s.monitor.counts) s
  else s

/-- The end test of PACK_EXHAUSTED at a sweep completion (R61). -/
def exhaustedEnd (s : State) : State :=
  if sweepAtRest s && decide (s.pack.vmin ≥ s.driveCfg.vDerate + 100) then endCond .packExhausted s else s

/-- Step 5 of a sweep completion (R54). -/
def thresholds (s : State) : State :=
  exhaustedEnd
    (([.cellOvervolt, .cellUndervolt, .packOvertemp, .bridgeOvertemp, .tempSensorFault, .cellImbalance] :
      List Threshold).foldl evalThreshold s)

/-! ## BUS_LOW (R69) -/

/-- BUS_LOW is raised and its count cleared (R69). -/
def raiseBusLow (s : State) : State :=
  raise .busLow (some (.number s.supply.busMv)) (setCounts { s.monitor.counts with busLow := 0 } s)

/-- BUS_LOW at a supply sweep completion (R69). -/
def busLowEval (s : State) : State :=
  let c := s.monitor.counts
  if condActive s .busLow then (if s.supply.busMv ≥ 32000 then endCond .busLow s else s)
  else if s.supply.busMv < 30000 then
    if c.busLow + 1 ≥ 2 then raiseBusLow s else setCounts { c with busLow := c.busLow + 1 } s
  else setCounts { c with busLow := 0 } s

/-! ## Sweep completions (R54, R68) -/

/-- Some kind became ACTIVE between two states: a condition was raised (R67, R193). -/
def newlyRaised (before after : State) : Bool :=
  CondKind.all.any (fun k => !condActive before k && condActive after k)

/-- A charge-inhibiting kind became ACTIVE between two states (R54, R78). -/
def chargeRaised (before after : State) : Bool :=
  CondKind.all.any (fun k => k.inhibitsCharge && !condActive before k && condActive after k)

/-- A raise in standby is a wake event, for which the fast clock is running (R54 step 7, R193). -/
def wakeIfRaised (before after : State) : State :=
  if after.asleep && newlyRaised before after then goActive after else after

/-- The completion of a cell sweep (R54). -/
def packComplete (l : List Delivery) (s : State) : State :=
  let first := !s.pack.valid
  let dt := s.age s.pack.time
  let s := s.setPack (packRecord l s.partTime)
  let s := publish .maxCell s.pack.vmax (publish .minCell s.pack.vmin s)
  let s := counterStep first dt s
  let before := s
  let s := thresholds (tapCheck s)
  wakeIfRaised before (chargeSweep dt (chargeRaised before s) s)

/-- The completion of a supply sweep (R68). -/
def supplyComplete (l : List Delivery) (s : State) : State :=
  let s := s.setSupply (supplyRecord l s.partTime)
  evalThreshold (evalThreshold (busLowEval s) .bridgeOvertemp) .tempSensorFault

/-- A value is delivered to PACK (R49): held for the sweep in flight, which completes with its last value. -/
def deliverPack (d : Delivery) (s : State) : State :=
  match s.monitor.sweep with
  | none => s
  | some l =>
    let l := l ++ [d]
    if l.length < (sweepChans s.role).length then s.setMonitor { s.monitor with sweep := some l }
    else
      let s := s.setMonitor { s.monitor with sweep := none }
      match s.role with
      | .handle => packComplete l s
      | .dock => supplyComplete l s

/-! ## The commands -/

/-- SWEEP_TIMER_EXPIRY (R50, R51). -/
def execSweepTimerExpiry (s : State) : Host.Outcome State Fault Refusal := .next (onExpiry s.monitor.next sweepExpiry s)

/-- The third mismatched sweep in a row (R55). -/
def tapMismatchReached (s : State) : State :=
  if (s.role == .handle) && s.fastUp && s.pack.valid && !condActive s .cellTapFault && mismatched s.pack &&
      decide (s.monitor.counts.mismatch + 1 ≥ 3) then raiseTapFault raise s
  else s

/-- TAP_MISMATCH_LIMIT (R55). -/
def execTapMismatchLimit (s : State) : Host.Outcome State Fault Refusal := .next (wakeIfRaised s (tapMismatchReached s))

/-- The third matched sweep in a row (R55). -/
def tapMatchReached (s : State) : State :=
  if (s.role == .handle) && s.fastUp && s.pack.valid && condActive s .cellTapFault && !mismatched s.pack &&
      decide (s.monitor.counts.matched + 1 ≥ 3) then endTapFault s
  else s

/-- TAP_MATCH_LIMIT (R55). -/
def execTapMatchLimit (s : State) : Host.Outcome State Fault Refusal := .next (tapMatchReached s)

/-- A threshold's raise test has held for its persistence (R57). -/
def persistenceMet (k : Threshold) (s : State) : State :=
  if thresholdInRole k s.role && s.fastUp && feedValid s && evaluated k s && !condActive s (thresholdKind k) &&
      raiseTest k s && decide (raiseCount k s.monitor.counts + 1 ≥ persistence k) then raiseThreshold raise k s
  else s

/-- THRESHOLD_PERSISTENCE_MET (R57). -/
def execThresholdPersistenceMet (k : Threshold) (s : State) : Host.Outcome State Fault Refusal :=
  .next (wakeIfRaised s (persistenceMet k s))

/-- The third sweep in a row without a mark (R59). -/
def sensorEndReached (s : State) : State :=
  if s.fastUp && feedValid s && condActive s .tempSensorFault && !marked s &&
      decide (s.monitor.counts.sensorEnd + 1 ≥ 3) then
    endSensorFault s
  else s

/-- SENSOR_END_COUNT_LIMIT (R59). -/
def execSensorEndCountLimit (s : State) : Host.Outcome State Fault Refusal := .next (sensorEndReached s)

/-- The second low sweep in a row (R69). -/
def busLowReached (s : State) : State :=
  if (s.role == .dock) && s.fastUp && s.supply.valid && !condActive s .busLow && decide (s.supply.busMv < 30000) &&
      decide (s.monitor.counts.busLow + 1 ≥ 2) then raiseBusLow s
  else s

/-- BUS_LOW_COUNT_LIMIT (R69). -/
def execBusLowCountLimit (s : State) : Host.Outcome State Fault Refusal := .next (busLowReached s)

end Sys2Proof.Machine
end

