-- ==== Sys2Proof/Machine/Sensing.lean ====
section
/-! DEFINITION. Dirt and fill sensing (chapter 5): the impact counter and its grade, the fill scanner, CONFIGURE_SENSING,
REBASE_BIN and HALT SENSING. -/

namespace Sys2Proof.Machine

/-! ## The impact counter (R94 to R98) -/

/-- A pulse is counted, while counting is active (R94, R95): the window's count rises to at most 4,095, and the dead time
starts. -/
def countPulse (s : State) : State :=
  match s.dirt.window with
  | none => s
  | some n => s.setDirt { s.dirt with window := some (min 4095 (n + 1)), dead := some (s.after (us 25)) }

/-- IMPACT_PULSE (R94): a rising crossing, ignored in the dead time; with the qualifier bypassed it is counted at once. -/
def impactPulse (s : State) : State :=
  if (s.role == .handle) && s.fastUp && s.dirt.dead.isNone then
    if s.sensingCfg.rejectUs = 0 then countPulse (s.setDirt { s.dirt with pulse := none })
    else s.setDirt { s.dirt with pulse := some (s.after (us s.sensingCfg.rejectUs)) }
  else s

/-- The reject width has elapsed (R94). -/
def impactQualified (high : Bool) (s : State) : State :=
  let s := s.setDirt { s.dirt with pulse := none }
  if high then countPulse s else s

/-- The threshold of a grade 1 to 3; grade 0 has none. -/
def gradeThreshold (c : SensingCfg) (g : Nat) : Int :=
  match g with
  | 0 => 0
  | 1 => c.t1
  | 2 => c.t2
  | _ => c.t3

/-- The highest grade whose threshold a rate meets (R97). -/
def metGrade (c : SensingCfg) (rate : Int) : Nat :=
  if rate ≥ c.t3 then 3 else if rate ≥ c.t2 then 2 else if rate ≥ c.t1 then 1 else 0

/-- The rate of a ring (R96). -/
def rateOf (ring : List Nat) : Int := ((ring.sum * 20 / ring.length : Nat) : Int)

/-- The grade takes a value (R97, R98): both counts 0, and the DIRT_GRADE report. -/
def changeGrade (g : Nat) (s : State) : State :=
  report .dirtGrade 0 ([byteOf s.dirt.grade, byteOf g] ++ le4 s.dirt.rate)
    (s.setDirt { s.dirt with grade := g, rise := 0, fall := 0 })

/-- The rise test passes (R97). -/
def riseTest (s : State) : Bool := decide (metGrade s.sensingCfg s.dirt.rate > s.dirt.grade)

/-- The fall test passes (R98). -/
def fallTest (s : State) : Bool :=
  decide (s.dirt.grade ≥ 1) && decide (s.dirt.rate < (gradeThreshold s.sensingCfg s.dirt.grade * 3).tdiv 4)

/-- The grade tests on the computed rate (R97, R98). -/
def gradeTests (s : State) : State :=
  let rise := if riseTest s then s.dirt.rise + 1 else 0
  let fall := if fallTest s then s.dirt.fall + 1 else 0
  let s := s.setDirt { s.dirt with rise := rise, fall := fall }
  if rise ≥ 2 then changeGrade (metGrade s.sensingCfg s.dirt.rate) s
  else if fall ≥ 10 then changeGrade (s.dirt.grade - 1) s
  else s

/-- The ring with a window appended, the oldest dropped if it already holds 20 (R96). -/
def appendWindow (ring : List Nat) (n : Nat) : List Nat :=
  (if ring.length ≥ 20 then ring.drop 1 else ring) ++ [n]

/-- Steps 1 to 3 of a window close at `t` (R96). -/
def closeWindow (n t : Nat) (s : State) : State :=
  s.setDirt
    { s.dirt with
      ring := appendWindow s.dirt.ring n
      total := min 4294967295 (s.dirt.total + n)
      window := some 0
      windowTimer := some (t + ms 50) }

/-- Steps 4 and 5 of a window close (R96). -/
def rateStep (s : State) : State :=
  if s.dirt.ring.length ≥ 4 then
    let r := rateOf s.dirt.ring
    gradeTests (publish .dirtRate r (s.setDirt { s.dirt with rate := r }))
  else s

/-- The window timer expires at `t` (R96). -/
def windowCloseAt (t : Nat) (s : State) : State :=
  match s.dirt.window with
  | none => s
  | some n => rateStep (closeWindow n t s)

/-! ## BIN_FULL and BAG_FULL (R109) -/

/-- The full condition of the role (R109). -/
def fullKind (r : Role) : CondKind :=
  match r with
  | .handle => .binFull
  | .dock => .bagFull

/-- The debounced level against the full level (R109). -/
def evalFull (s : State) : State :=
  if s.fill.debounced ≥ s.sensingCfg.full then
    if condActive s (fullKind s.role) then s else raise (fullKind s.role) (some (.number s.fill.debounced)) s
  else endCond (fullKind s.role) s

/-! ## The completion of a scan (R106) -/

/-- A raw count as a scaled count (R101): the count stops at the end of its range. -/
def scaled (width : Nat) (raw : BitVec 16) : Int := ((min raw.toNat (2 ^ width - 1) * 2 ^ (16 - width) : Nat) : Int)

/-- Step 1 (R106): the eight scaled counts stored as last raws. -/
def storeRaws (width : Nat) (raws : Vector (BitVec 16) 8) (s : State) : State :=
  s.setFill
    { s.fill with
      electrodes := perEight (fun i => { s.fill.electrodes[i] with raw := scaled width raws[i] })
      time := s.partTime
      scan := none }

/-- A BIN_LEVEL report (R108). -/
def levelReport (old new : Nat) (s : State) : State :=
  report .binLevel 0 [byteOf old, byteOf new, byteOf s.fill.rawLevel] s

/-- The rebase carried out (R112). -/
def rebase (s : State) : State :=
  let old := s.fill.debounced
  let s := s.setFill
    { s.fill with
      electrodes := perEight (fun i => { s.fill.electrodes[i] with baseline := (s.fill.electrodes[i]).raw })
      rawLevel := 0
      debounced := 0
      candidate := none
      candCount := 0
      absent := 0
      rebasePending := false }
  if old > 0 then evalFull (levelReport old 0 s) else s

/-- Step 2 (R112): a pending rebase at the first scan that started after the request, carried out or dropped. -/
def rebaseStep (scan : Scan) (s : State) : State :=
  if s.fill.rebasePending && scan.rebase then
    if s.drive.state == .stopped then rebase s else s.setFill { s.fill with rebasePending := false }
  else s

/-- The reference's fall below its baseline (R107). -/
def deltaRef (e : Vector Electrode 8) : Int := max 0 ((e[6]).baseline - (e[6]).raw)

/-- An electrode's record with its delta and covered result (R107). -/
def coverTest (ref cover : Int) (e : Electrode) : Electrode :=
  let d := max 0 (e.baseline - e.raw - ref)
  { e with delta := d, covered := decide (e.baseline > 0 ∧ d * 1000 ≥ e.baseline * cover) }

/-- Step 3 (R107), for E1 to E6. -/
def coverStep (s : State) : State :=
  let e := s.fill.electrodes
  let ref := deltaRef e
  s.setFill
    { s.fill with
      electrodes := perEight (fun i => if i.val < 6 then coverTest ref s.sensingCfg.cover e[i] else e[i]) }

/-- The covered electrodes counted upward to the first uncovered one (R108). -/
def countCovered (l : List Electrode) : Nat :=
  match l with
  | [] => 0
  | e :: rest => if e.covered then countCovered rest + 1 else 0

/-- The raw level (R108). -/
def rawLevelOf (e : Vector Electrode 8) : Nat := countCovered [e[0], e[1], e[2], e[3], e[4], e[5]]

/-- The candidate is accepted (R108, R109). -/
def acceptLevel (c : Nat) (s : State) : State :=
  let old := s.fill.debounced
  let s := s.setFill { s.fill with debounced := c, candidate := none, candCount := 0 }
  evalFull (levelReport old c s)

/-- The debounced level follows the raw level (R108). -/
def debounce (s : State) : State :=
  let f := s.fill
  if f.rawLevel = f.debounced then s.setFill { f with candidate := none, candCount := 0 }
  else if f.candidate = some f.rawLevel then
    if f.candCount + 1 ≥ 3 then acceptLevel f.rawLevel s
    else s.setFill { f with candCount := f.candCount + 1 }
  else s.setFill { f with candidate := some f.rawLevel, candCount := 1 }

/-- Step 4 (R108). -/
def levelStep (s : State) : State := debounce (s.setFill { s.fill with rawLevel := rawLevelOf s.fill.electrodes })

/-- raw_G − baseline_G (R110). -/
def gangRise (s : State) : Int := (s.fill.electrodes[7]).raw - (s.fill.electrodes[7]).baseline

/-- The scan is absent-looking (R110). -/
def absentLooking (s : State) : Bool :=
  decide (gangRise s ≥ ((s.fill.electrodes[7]).baseline * 250).tdiv 1000)

/-- BIN_ABSENT is raised and its count cleared (R110). -/
def raiseBinAbsent (s : State) : State :=
  raise .binAbsent (some (.number (gangRise s))) (s.setFill { s.fill with absent := 0 })

/-- BIN_ABSENT is ended and its count cleared (R110). -/
def endBinAbsent (s : State) : State := endCond .binAbsent (s.setFill { s.fill with present := 0 })

/-- Step 5 (R110), in handle role. -/
def presenceStep (s : State) : State :=
  match s.role with
  | .dock => s
  | .handle =>
    if condActive s .binAbsent then
      if absentLooking s then s.setFill { s.fill with present := 0 }
      else if s.fill.present + 1 ≥ 2 then endBinAbsent s
      else s.setFill { s.fill with present := s.fill.present + 1 }
    else if absentLooking s then
      if s.fill.absent + 1 ≥ 2 then raiseBinAbsent s else s.setFill { s.fill with absent := s.fill.absent + 1 }
    else s.setFill { s.fill with absent := 0 }

/-- Baseline tracking applies (R111). -/
def trackingApplies (s : State) : Bool :=
  decide (s.fill.debounced = 0) && (s.drive.state == .stopped) &&
    ((s.role == .dock) || (!absentLooking s && !condActive s .binAbsent))

/-- An electrode's baseline moves a sixteenth of the way toward its raw (R111). -/
def track (e : Electrode) : Electrode := { e with baseline := e.baseline + (e.raw - e.baseline).tdiv 16 }

/-- Step 6 (R111). -/
def trackStep (s : State) : State :=
  if trackingApplies s then
    s.setFill { s.fill with electrodes := perEight (fun i => track s.fill.electrodes[i]) }
  else s

/-- The completion of a scan (R106). -/
def scanComplete (scan : Scan) (raws : Vector (BitVec 16) 8) (s : State) : State :=
  linkScan
    (trackStep (presenceStep (levelStep (coverStep (rebaseStep scan (storeRaws scan.width raws s))))))

/-! ## Requests -/

/-- The sensing settings a CONFIGURE_SENSING leaves, each adjusted (R100, R113). -/
def sensingCfgAfter (p : List Byte) : SensingCfg :=
  { code := clampNat (num1 p 0) 0 15
    rejectUs := roundImpactReject (num1 p 1)
    t1 := clampInt (num2 p 2) 1 10000
    t2 := clampInt (num2 p 4) 1 10000
    t3 := clampInt (num2 p 6) 1 10000
    drainUs := roundDrain (num1 p 8)
    chargeUs := roundCharge (num1 p 9)
    clockMhz := roundClock (num1 p 10)
    width := clampNat (num1 p 11) 9 16
    cover := clampInt (num2 p 12) 20 300
    full := clampNat (num1 p 14) 3 6 }

/-- Some field was adjusted (R100, R113): the settings as stored do not spell the request. -/
def sensingMoved (p : List Byte) : Bool := sensingCfgBytes (sensingCfgAfter p) != p

/-- A stored change of the scan's timing (R104). -/
def scanTimingChanged (a b : SensingCfg) : Bool :=
  a.drainUs != b.drainUs || a.chargeUs != b.chargeUs || a.clockMhz != b.clockMhz || a.width != b.width

/-- A stored change of a grade threshold (R100). -/
def gradesChanged (a b : SensingCfg) : Bool := decide (a.t1 ≠ b.t1 ∨ a.t2 ≠ b.t2 ∨ a.t3 ≠ b.t3)

/-- The settings are stored, with what their changes bring (R100, R104, R113, R109). -/
def storeSensing (cfg : SensingCfg) (s : State) : State :=
  let old := s.sensingCfg
  let s := s.setSensingCfg cfg
  let s := if scanTimingChanged old cfg then abortScan s else s
  let s := if gradesChanged old cfg then s.setDirt { s.dirt with rise := 0, fall := 0 } else s
  if old.full = cfg.full then s else evalFull s

/-- CONFIGURE_SENSING (R100, R113). -/
def reqConfigureSensing (p : List Byte) (s : State) : State × Answer :=
  let cfg := sensingCfgAfter p
  if cfg.t1 < cfg.t2 ∧ cfg.t2 < cfg.t3 then
    (storeSensing cfg s, okIf (sensingMoved p) (sensingCfgBytes cfg))
  else (s, bare .invalid)

/-- REBASE_BIN (R112): a scan in flight is not the one that will carry it out. -/
def reqRebaseBin (_p : List Byte) (s : State) : State × Answer :=
  if s.drive.state == .stopped then
    (s.setFill
      { s.fill with
        rebasePending := true
        scan :=
          match s.fill.scan with
          | none => none
          | some c => some { c with rebase := false } },
     bare .ok)
  else (s, bare .busy)

/-- The impact counter at HALT SENSING (R114). -/
def haltDirt (s : State) : State :=
  let old := s.dirt.grade
  let s := s.setDirt { s.dirt with ring := [], rise := 0, fall := 0, grade := 0 }
  let s :=
    if s.drive.state == .regulate then
      s.setDirt { s.dirt with window := some 0, windowTimer := some (s.after (ms 50)) }
    else s
  if old > 0 then report .dirtGrade 0 ([byteOf old, 0] ++ le4 s.dirt.rate) s else s

/-- HALT SENSING (R114). -/
def reqHaltSensing (s : State) : State × Answer :=
  match s.role with
  | .handle => (haltDirt (abortScan s), bare .ok)
  | .dock => (abortScan s, bare .ok)

/-! ## The commands -/

/-- IMPACT_PULSE (R94). -/
def execImpactPulse (s : State) : Host.Outcome State Fault Refusal := .next (impactPulse s)

/-- IMPACT_QUALIFIED (R94). -/
def execImpactQualified (high : Bool) (s : State) : Host.Outcome State Fault Refusal :=
  .next (if s.fastUp then onExpiry s.dirt.pulse (fun _ => impactQualified high) s else s)

/-- The dead time is over (R94). -/
def deadTimeOver (s : State) : State := s.setDirt { s.dirt with dead := none }

/-- IMPACT_DEAD_TIME_END (R94). -/
def execImpactDeadTimeEnd (s : State) : Host.Outcome State Fault Refusal :=
  .next (if s.fastUp then onExpiry s.dirt.dead (fun _ => deadTimeOver) s else s)

/-- WINDOW_CLOSE (R96). -/
def execWindowClose (s : State) : Host.Outcome State Fault Refusal :=
  .next (onExpiry s.dirt.windowTimer windowCloseAt s)

/-- The second close in a row that meets a higher grade (R97). -/
def gradeRises (s : State) : State :=
  if s.dirt.window.isSome && decide (s.dirt.ring.length ≥ 4) && riseTest s && decide (s.dirt.rise + 1 ≥ 2) then
    changeGrade (metGrade s.sensingCfg s.dirt.rate) s
  else s

/-- GRADE_RISE (R97). -/
def execGradeRise (s : State) : Host.Outcome State Fault Refusal := .next (gradeRises s)

/-- The tenth close in a row below three quarters of the grade's threshold (R98). -/
def gradeFalls (s : State) : State :=
  if s.dirt.window.isSome && decide (s.dirt.ring.length ≥ 4) && fallTest s && decide (s.dirt.fall + 1 ≥ 10) then
    changeGrade (s.dirt.grade - 1) s
  else s

/-- GRADE_FALL (R98). -/
def execGradeFall (s : State) : Host.Outcome State Fault Refusal := .next (gradeFalls s)

/-- SCAN_TIMER_EXPIRY (R103). -/
def execScanTimerExpiry (s : State) : Host.Outcome State Fault Refusal := .next (onExpiry s.fill.next scanExpiry s)

/-- The eighth measurement of the scan in flight ends (R102, R106). -/
def scanEnds (raws : Vector (BitVec 16) 8) (s : State) : State :=
  match s.fill.scan with
  | none => s
  | some c => scanComplete c raws (s.advanceTo c.endsAt)

/-- SCAN_COMPLETION (R106). -/
def execScanCompletion (raws : Vector (BitVec 16) 8) (s : State) : Host.Outcome State Fault Refusal :=
  .next (scanEnds raws s)

/-- The third scan in a row at the candidate (R108). -/
def debounceReached (s : State) : State :=
  match s.fill.candidate with
  | none => s
  | some c => if s.active && decide (s.fill.candCount + 1 ≥ 3) then acceptLevel c s else s

/-- DEBOUNCE_ACCEPTED (R108). -/
def execDebounceAccepted (s : State) : Host.Outcome State Fault Refusal := .next (debounceReached s)

/-- The second absent-looking scan in a row (R110). -/
def binAbsentReached (s : State) : State :=
  if (s.role == .handle) && s.active && !condActive s .binAbsent && absentLooking s && decide (s.fill.absent + 1 ≥ 2) then
    raiseBinAbsent s
  else s

/-- BIN_ABSENT_LIMIT (R110). -/
def execBinAbsentLimit (s : State) : Host.Outcome State Fault Refusal := .next (binAbsentReached s)

/-- The second present-looking scan in a row (R110). -/
def binPresentReached (s : State) : State :=
  if (s.role == .handle) && s.active && condActive s .binAbsent && !absentLooking s && decide (s.fill.present + 1 ≥ 2) then
    endBinAbsent s
  else s

/-- BIN_PRESENT_LIMIT (R110). -/
def execBinPresentLimit (s : State) : Host.Outcome State Fault Refusal := .next (binPresentReached s)

end Sys2Proof.Machine
end

