-- ==== Sys2Proof/Machine/Sequencer.lean ====
section
/-! DEFINITION. The measurement sequencer's completions and the host's requests to it (chapter 6); its queue, arbiter and
calibration stand in Ops. -/

namespace Sys2Proof.Machine

/-! ## Completions (R118, R124) -/

/-- raw_avg of the first `n` of the raw codes (R118). -/
def rawAverage (n : Nat) (codes : Vector (BitVec 12) 8) : Nat := (((codes.toList.take n).map BitVec.toNat).sum) / n

/-- The channel record after a completion (R124 steps 1 and 2, R119, R120): an OPEN or SHORT keeps the value. -/
def completedRecord (c : Chan) (raw : Nat) (now : Time) (r : ChanRec) : ChanRec :=
  { r with
    value := if markOf c raw = .none then calibrate c r.cal raw else r.value
    raw := raw
    mark := markOf c raw
    time := now
    valid := true }

/-- Step 3 (R124): the value is published, unless it came with a mark. -/
def publishConversion (c : Chan) (s : State) : State :=
  if (s.chan c).mark = .none then publish (.chan c) (s.chan c).value s else s

/-- The MEASUREMENT report of a completion (R124 step 5, R197). -/
def measurementReport (c : Chan) (count : Nat) (s : State) : State :=
  let r := s.chan c
  report .measurement 0
    (byteOf c.number :: (le3 r.value ++ le2 (r.raw + 4096 * r.mark.code + 16384 * averagingCode count : Nat))) s

/-- Step 4 (R124): delivery to OUTPUT, PACK and DOCK in that order; DRIVE and CHARGE do not act on theirs (R125). -/
def deliver (c : Chan) (q : Requesters) (s : State) : State :=
  let v := (s.chan c).value
  let m := (s.chan c).mark
  let s := if q.output && (c == .dockV) then outputDelivered v s else s
  let s := if q.pack then deliverPack { chan := c, value := v, mark := m } s else s
  if q.dock && (c == .dockV) then s.setLink { s.link with contactMv := v } else s

/-- Step 6 (R124, R192): the converter is free, the arbiter chooses, and in standby the fast clock stops when nothing is
left. -/
def nextConversion (s : State) : State :=
  stopFastClock (arbiter (s.setSeq { s.seq with inFlight := none }))

/-- A conversion completes (R124). The converter stays taken until step 6, so that what the deliveries post waits for the
arbiter. -/
def conversionComplete (f : Conversion) (codes : Vector (BitVec 12) 8) (s : State) : State :=
  let raw := rawAverage f.count codes
  let s := setChan f.chan (completedRecord f.chan raw s.partTime (s.chan f.chan)) s
  let s := deliver f.chan f.set (publishConversion f.chan s)
  let s := if f.set.port then measurementReport f.chan f.count s else s
  nextConversion s

/-- The conversion in flight ends (R118, R124). -/
def conversionEnds (codes : Vector (BitVec 12) 8) (s : State) : State :=
  match s.seq.inFlight with
  | none => s
  | some f => if s.fastUp then conversionComplete f codes (s.advanceTo f.endsAt) else s

/-! ## Requests (R115, R117, R126) -/

/-- A channel request by its number (R115): INVALID outside 1 to 15, WRONG_ROLE for a channel absent in the role. -/
def withChannel (n : Nat) (f : Chan → State → State × Answer) (s : State) : State × Answer :=
  match Chan.ofNumber n with
  | none => (s, bare .invalid)
  | some c => if c.inRole s.role then f c s else (s, bare .wrongRole)

/-- The codes of a CONFIGURE_CHANNEL, clamped (R117). -/
def requestedCodes (p : List Byte) : Codes :=
  { clock := min 3 (num1 p 1), pre := min 3 (num1 p 2), sample := min 63 (num1 p 3), gap := min 31 (num1 p 4) }

/-- The channel's codes and count stored (R117). -/
def configureChannel (p : List Byte) (c : Chan) (s : State) : State × Answer :=
  let r := { s.chan c with codes := requestedCodes p, averaging := roundAveraging (num1 p 5) }
  (setChan c r s, okIf (chanCfgBytes c r != p) (chanCfgBytes c r))

/-- CONFIGURE_CHANNEL (R117). -/
def reqConfigureChannel (p : List Byte) (s : State) : State × Answer :=
  withChannel (num1 p 0) (configureChannel p) s

/-- The reply to MEASURE (R126, R195). -/
def measureReply (c : Chan) (s : State) : State × Answer :=
  let r := s.chan c
  (s,
   { status := .ok
     payload :=
       le4 r.value ++ le2 r.raw ++ [byteOf r.mark.code, boolByte r.valid] ++
         (if r.valid then le4 (s.age r.time) else absent4) })

/-- MEASURE (R126). -/
def reqMeasure (p : List Byte) (s : State) : State × Answer := withChannel (num1 p 0) measureReply s

/-- The averaging count of a MEASURE_FRESH: 0 asks for the channel's stored count (R121). -/
def freshCount (given : Nat) (c : Chan) (s : State) : Nat :=
  if given = 0 then (s.chan c).averaging else roundAveraging given

/-- MEASURE_FRESH for a channel of the role (R126, R122). -/
def measureFresh (given : Nat) (c : Chan) (s : State) : State × Answer :=
  match place c .port (freshCount given c s) s with
  | none => (s, bare .queueFull)
  | some s' => (s', okIf (decide (given ≠ 0 ∧ roundAveraging given ≠ given)) [])

/-- MEASURE_FRESH (R126). -/
def reqMeasureFresh (p : List Byte) (s : State) : State × Answer :=
  withChannel (num1 p 0) (measureFresh (num1 p 1)) s

/-! ## The command -/

/-- CONVERSION_COMPLETION (R124). -/
def execConversionCompletion (codes : Vector (BitVec 12) 8) (s : State) : Host.Outcome State Fault Refusal :=
  .next (conversionEnds codes s)

end Sys2Proof.Machine
end

