-- ==== Sys2Proof/Machine/Snapshot.lean ====
section
/-! DEFINITION. The pages of GET_STATUS (R185, R196): each owning record's fields in the order of its table, encoded by
R194. -/

namespace Sys2Proof.Machine

/-- The trigger level, PRESSED 0 or RELEASED 1 in the order of R1 (log entry 8). -/
def trigLevelByte (pressed : Bool) : Byte := if pressed then 0 else 1

/-- The last stop reason, NONE 0 (R196). -/
def lastStopByte (r : Option StopReason) : Byte :=
  match r with
  | none => 0
  | some r => byteOf r.code

/-- The DRIVE page (R1, R196): the record, the level in use, the six settings. -/
def drivePage (s : State) : List Byte :=
  let d := s.drive
  [byteOf d.state.code] ++ d.mode.bytes ++
    [boolByte d.armed, trigLevelByte d.trigPressed, boolByte d.trigOn, boolByte d.pendingStart] ++ le4 d.nTgt ++
    le4 d.nEff ++ le4 d.nMeas ++ le4 d.duty ++ le4 d.pMeas ++ le4 d.pCeil ++
    [byteOf d.limit.code, lastStopByte d.lastStop] ++ timeBytes d.runStart ++ le4 d.startCharge ++
    [byteOf d.stale, byteOf d.lowSpeed, byteOf d.overcurrent, byteOf (levelInUse s)] ++ driveCfgBytes s.driveCfg

/-- PACK page 0 in handle role (R53, R196). -/
def packPage0 (s : State) : List Byte :=
  let p := s.pack
  le4 p.cells[0] ++ le4 p.cells[1] ++ le4 p.cells[2] ++ le4 p.cells[3] ++ le4 p.cells[4] ++ le4 p.cells[5] ++
    le4 p.cells[6] ++ le4 p.vmin ++ [byteOf p.vminCell] ++ le4 p.vmax ++ [byteOf p.vmaxCell, boolByte p.valid]

/-- PACK page 1 in handle role (R53, R62, R196). -/
def packPage1 (s : State) : List Byte :=
  let p := s.pack
  let c := s.counter
  le4 p.packMv ++ le4 p.packMa ++ le4 p.packT ++ le4 p.bridgeT ++ timeBytes p.time ++ le4 c.q ++ le4 c.residual ++
    [byteOf c.soc, byteOf c.origin.code] ++ le4 c.capacity

/-- The PACK page in dock role: the supply record (R68, R196). -/
def supplyPage (s : State) : List Byte :=
  let p := s.supply
  le4 p.busMv ++ le4 p.ambientT ++ le4 p.bridgeT ++ timeBytes p.time ++ [boolByte p.valid]

/-- The reason of a phase, absent 0xFF (R70, R194). -/
def phaseReasonByte (r : Option PhaseReason) : Byte :=
  match r with
  | none => 0xFF
  | some r => byteOf r.code

/-- The balance set in three bytes, highest voltage first, 0 for an unused place (R196). -/
def balanceBytes (l : List Nat) : List Byte := [byteOf (l.getD 0 0), byteOf (l.getD 1 0), byteOf (l.getD 2 0)]

/-- CHARGE page 0 in handle role: the session record from phase through termination time (R70, R196). -/
def chargePage0 (s : State) : List Byte :=
  let c := s.session
  [byteOf c.phase.code, phaseReasonByte c.reason] ++ le4 c.request ++ le4 c.vLimit ++ [boolByte c.switchClosed] ++
    balanceBytes c.balance ++ timeBytes c.start ++ timeBytes c.phaseEntry ++ s.remaining c.precharge ++
    s.remaining c.topBalance ++ s.remaining c.limit ++ le4 c.termination

/-- CHARGE page 1 in handle role (R70, R196). -/
def chargePage1 (s : State) : List Byte :=
  let c := s.session
  le4 c.dock.vLim ++ le4 c.dock.iLim ++ le4 c.dock.vOut ++ le4 c.dock.iOut ++ [byteOf (outStatusCode c.dock.status)] ++
    s.remaining c.dockTimer ++ s.remaining c.restart ++ le4 s.chargeCfg.iCc ++ le4 s.chargeCfg.vCellFull ++
    [boolByte s.dockCfg.chargingEnabled]

/-- The CHARGE page in dock role: the output record (R162, R196). -/
def outputPage (s : State) : List Byte :=
  let o := s.output
  [boolByte o.permission] ++ le4 o.vLim ++ le4 o.iRequested ++ le4 o.iApp ++ le4 o.pAllow ++ le4 o.duty ++
    [byteOf (outStatusCode o.status)] ++ le4 o.vOut ++ le4 o.iOut ++ [byteOf o.stale] ++ le4 o.busLimit ++ le4 o.iMax

/-- An electrode record of E1 to E6 (R105). -/
def electrodeBytes (e : Electrode) : List Byte := le4 e.baseline ++ le4 e.raw ++ le4 e.delta ++ [boolByte e.covered]

/-- The record of ER or G, which has a baseline and a last raw only (R105): 8 bytes, without a delta or a covered flag
(DEDUCED, log entry 8). -/
def plainElectrodeBytes (e : Electrode) : List Byte := le4 e.baseline ++ le4 e.raw

/-- SENSING page 0 (R196). -/
def sensingPage0 (s : State) : List Byte :=
  let e := s.fill.electrodes
  electrodeBytes e[0] ++ electrodeBytes e[1] ++ electrodeBytes e[2] ++ electrodeBytes e[3]

/-- SENSING page 1 (R196). -/
def sensingPage1 (s : State) : List Byte :=
  let e := s.fill.electrodes
  electrodeBytes e[4] ++ electrodeBytes e[5] ++ plainElectrodeBytes e[6] ++ plainElectrodeBytes e[7]

/-- The impact counter's part of SENSING page 2: 0 in dock role (R196). The rate is the one computed last, also once the ring
has been emptied (DEDUCED, log entry 27). -/
def dirtBytes (s : State) : List Byte :=
  match s.role with
  | .handle => [byteOf s.dirt.grade] ++ le4 s.dirt.rate ++ [byteOf s.dirt.ring.length] ++ le4 s.dirt.total
  | .dock => [0] ++ le4 0 ++ [0] ++ le4 0

/-- SENSING page 2 (R196). -/
def sensingPage2 (s : State) : List Byte :=
  let f := s.fill
  [byteOf f.rawLevel, byteOf f.debounced, optByte f.candidate, byteOf f.candCount, byteOf f.absent, byteOf f.present,
   boolByte f.rebasePending, boolByte f.scan.isSome] ++ timeBytes f.time ++ dirtBytes s

/-- The pending exchanges in one byte, bit 0 IDENT to bit 4 EVAC_STOP (R196). -/
def pendingByte (p : PendingSet) : Byte :=
  byteOf
    ((if p.ident then 1 else 0) + (if p.setpoint then 2 else 0) + (if p.evacStart then 4 else 0) +
      (if p.evacQuery then 8 else 0) + (if p.evacStop then 16 else 0))

/-- The dock identity as in the IDENT response (R198). -/
def identityBytes (p : IdentPayload) : List Byte :=
  [p.revision] ++ bytes2 p.vMaxOut ++ bytes2 p.iMaxOut ++ bytes2 p.busLimit ++
    [boolByte p.fitted, p.bagLevel, boolByte p.bagFull, byteOf (evacStateCode p.evac)]

/-- The exchange in flight, absent 0xFF (R144, R194). -/
def exchangeByte (e : Option Exchange) : Byte :=
  match e with
  | none => 0xFF
  | some e => byteOf e.kind.code

/-- The DOCK page in handle role: the link record (R144, R196). -/
def linkPage (s : State) : List Byte :=
  let l := s.link
  [boolByte l.docked] ++ timeBytes l.dockedTime ++
    [byteOf l.state.code, byteOf l.failures, byteOf l.lastOutcome.code, exchangeByte l.exchange, pendingByte l.pend] ++
    identityBytes l.identity ++ le4 l.contactMv ++
    [byteOf l.evac.code, boolByte l.stopPending, boolByte l.readopt] ++ optTimeBytes l.lastEvacEnd ++
    [optByte l.postCount]

/-- The time since the last valid request, absent while there has been none (R161, R194). -/
def sinceLastRequest (s : State) : List Byte :=
  match s.responder.lastValid with
  | none => absent4
  | some t => le4 (s.age t)

/-- The abort reason of the cycle, absent 0xFF (R170, R194). -/
def cycleReasonByte (r : Option AbortReason) : Byte :=
  match r with
  | none => 0xFF
  | some r => byteOf (abortReasonCode r)

/-- The DOCK page in dock role (R161, R170, R196): presence PRESENT 0 or ABSENT 1 (log entry 8), silence, the time since
the last valid request, the cycle. -/
def responderPage (s : State) : List Byte :=
  [if s.responder.present then 0 else 1, boolByte s.dockSilent] ++ sinceLastRequest s ++
    [byteOf (evacStateCode s.cycle.state), cycleReasonByte s.cycle.reason, byteOf s.cycle.duration] ++
    timeBytes s.cycle.runningSince ++ [byteOf (cycleElapsed s)]

/-- The pages of a selector in a role, none for an unknown selector (R185, R196). -/
def snapshotPages (selector : Nat) (s : State) : List (List Byte) :=
  match selector, s.role with
  | 0, _ => [drivePage s]
  | 1, .handle => [packPage0 s, packPage1 s]
  | 1, .dock => [supplyPage s]
  | 2, .handle => [chargePage0 s, chargePage1 s]
  | 2, .dock => [outputPage s]
  | 3, _ => [sensingPage0 s, sensingPage1 s, sensingPage2 s]
  | 4, .handle => [linkPage s]
  | 4, .dock => [responderPage s]
  | _, _ => []

/-- GET_STATUS (R185): an unknown selector or a page beyond the last is INVALID. -/
def reqGetStatus (p : List Byte) (s : State) : State × Answer :=
  let b := num1 p 0
  match (snapshotPages (b % 16) s)[b / 16]? with
  | some page => (s, { status := .ok, payload := page })
  | none => (s, bare .invalid)

end Sys2Proof.Machine
end

