-- ==== Sys2Proof/Machine/Port.lean ====
section
/-! DEFINITION. The host port (chapter 10): the receiver, the receive buffer, the silence monitor, the service of a
request, the reply and its end, and the requests the port serves itself. -/

namespace Sys2Proof.Machine

/-! ## Requests served by the port (R183, R184, R188, R191) -/

/-- The seven ASCII bytes of "Rebsila". -/
def familyBytes : List Byte := [0x52, 0x65, 0x62, 0x73, 0x69, 0x6C, 0x61]

/-- IDENTIFY (R184, R195). -/
def reqIdentify (_p : List Byte) (s : State) : State × Answer :=
  (s,
   { status := .ok
     payload :=
       familyBytes ++ le2 4107 ++ [1, byteOf (roleCode s.role)] ++ bytes4 s.trim.serial ++
         [boolByte s.power.trimPassed, byteOf s.power.cause.code] ++ timeBytes s.partTime })

/-- KEEPALIVE (R184). -/
def reqKeepalive (_p : List Byte) (s : State) : State × Answer :=
  (s, { status := .ok, payload := timeBytes s.partTime })

/-- A report record in its 12 bytes (R197): each byte that its kind leaves of the six data bytes is free on its own, `pad`
giving them by their place (log entry 5). -/
def reportBytes (pad : Nat → Byte) (r : Report) : List Byte :=
  [byteOf r.kind.code, byteOf r.sub] ++ timeBytes r.time ++ (r.data ++ (List.range (6 - r.data.length)).map pad)

/-- The records of the first reports of a list, each with free values of its own. -/
def reportListBytes (n : Nat) (l : List Report) : List Byte :=
  match l with
  | [] => []
  | r :: rest => reportBytes (Config.reportPad n) r ++ reportListBytes (n + 1) rest

/-- FETCH_REPORTS (R183): up to four reports leave the head of the queue; then the count left and the lost flag, which
becomes no. -/
def reqFetchReports (_p : List Byte) (s : State) : State × Answer :=
  let out := s.reports.take 4
  let left := s.reports.drop 4
  (((s.setReports left).setLost false).setFree (s.free + out.length),
   { status := .ok, payload := reportListBytes s.free out ++ [byteOf left.length, boolByte s.lost] })

/-- SLEEP is answered BUSY (R191). -/
def sleepBusy (s : State) : Bool :=
  (s.drive.state != .stopped) || !(s.session.phase == .none || s.session.phase == .done) ||
    s.session.restart.isSome || (s.link.evac != .none)

/-- SLEEP (R191). -/
def reqSleep (_p : List Byte) (s : State) : State × Answer :=
  if sleepBusy s then (s, bare .busy) else (s.setPower { s.power with standbyPending := true }, bare .ok)

/-- RESTART (R188): answered OK; the reset comes at the end of the reply. -/
def reqRestart (_p : List Byte) (s : State) : State × Answer := (s, bare .ok)

/-- HALT (R187): by its target. -/
def reqHalt (p : List Byte) (s : State) : State × Answer :=
  match num1 p 0 with
  | 0 => reqHaltDrive s
  | 1 => reqHaltCharge s
  | 2 => reqHaltSensing s
  | 3 => reqHaltDockLink s
  | _ => (s, bare .invalid)

/-! ## Service (R178 to R180) -/

/-- A request's own rule (R179 step 4). -/
def ownRule (k : ReqKind) (p : List Byte) (s : State) : State × Answer :=
  match k with
  | .identify => reqIdentify p s
  | .getStatus => reqGetStatus p s
  | .fetchReports => reqFetchReports p s
  | .keepalive => reqKeepalive p s
  | .run => reqRun p s
  | .stop => reqStop p s
  | .halt => reqHalt p s
  | .configureDrive => reqConfigureDrive p s
  | .setLevelEntry => reqSetLevelEntry p s
  | .configurePack => reqConfigurePack p s
  | .configureCharge => reqConfigureCharge p s
  | .configureSensing => reqConfigureSensing p s
  | .rebaseBin => reqRebaseBin p s
  | .configureChannel => reqConfigureChannel p s
  | .configureDock => reqConfigureDock p s
  | .configureSupply => reqConfigureSupply p s
  | .measure => reqMeasure p s
  | .measureFresh => reqMeasureFresh p s
  | .getConditions => reqGetConditions p s
  | .ackCondition => reqAckCondition p s
  | .setWatch => reqSetWatch p s
  | .clearWatch => reqClearWatch p s
  | .getWatches => reqGetWatches p s
  | .evacuate => reqEvacuate p s
  | .cancelEvacuation => reqCancelEvacuation p s
  | .sleep => reqSleep p s
  | .restart => reqRestart p s

/-- The validation of a request, in order (R179), and its effects. -/
def serve (f : Frame) (s : State) : State × Answer :=
  match ReqKind.ofByte f.kind with
  | none => (s, bare .unknownKind)
  | some k =>
    if f.len ≠ 2 + k.payloadLen then (s, bare .invalid)
    else if k.applies s.role then ownRule k f.payload s
    else (s, bare .wrongRole)

/-- The reply composed from the state the effects have left (R178, R180): the overrun flag is carried and cleared. A free
value is used up for the bits of FLAGS that the manual leaves open (log entry 5). -/
def composeReply (f : Frame) (r : State × Answer) : State :=
  let s := r.1
  (s.setFree (s.free + 1)).setPort
    { s.port with
      overrun := false
      reply := some
        { kind := f.kind + 0x80
          tag := f.tag
          status := r.2.status
          reportsPending := !s.reports.isEmpty
          overrun := s.port.overrun
          role := s.role
          payload := r.2.payload } }

/-- A request is taken in one event (R178). -/
def takeRequest (f : Frame) (s : State) : State := composeReply f (serve f s)

/-- The FLAGS byte of a reply (R195): the bits the manual does not name come from `spare` (log entry 5). -/
def replyFlags (spare : Byte) (r : Reply) : Byte :=
  (spare &&& 0xF8) |||
    byteOf ((if r.reportsPending then 1 else 0) + (if r.overrun then 2 else 0) + 4 * roleCode r.role)

/-- The bytes of a reply from LEN through the payload (R175). -/
def replyBody (spare : Byte) (r : Reply) : List Byte :=
  [byteOf (r.payload.length + 4), r.kind, r.tag, byteOf r.status.code, replyFlags spare r] ++ r.payload

/-- The frame of a reply on **HP_TX** (R175). -/
def replyFrame (spare : Byte) (r : Reply) : List Byte :=
  let body := replyBody spare r
  [0xC3] ++ body ++ [0 - byteSum body]

/-- The frame of the reply in progress, if any. -/
def State.txFrame (s : State) : Option (List Byte) :=
  match s.port.reply with
  | none => none
  | some r => some (replyFrame (Config.flagsSpare s.free) r)

/-! ## Reception (R176, R177, R181) -/

/-- A valid frame restarts the silence timer, clears the silent mark and ends PORT_SILENT (R181), in handle role. -/
def heard (s : State) : State :=
  match s.role with
  | .dock => s
  | .handle =>
    endCond .portSilent (s.setPort { s.port with silence := some (s.after (ms 500)), silent := false })

/-- A valid frame is taken at once, or joins the buffer, or is lost with the overrun flag set (R177). -/
def offer (f : Frame) (s : State) : State :=
  if s.port.reply.isNone && s.port.buffer.isEmpty then takeRequest f s
  else if s.port.buffer.length < 2 then s.setPort { s.port with buffer := s.port.buffer ++ [f] }
  else s.setPort { s.port with overrun := true }

/-- A valid frame has been received (R176). -/
def validFrame (f : Frame) (s : State) : State := offer f (heard s)

/-- The sum from LEN through CHECK is 0 modulo 256 (R175). -/
def sumMatches (len : Nat) (bytes : List Byte) (check : Byte) : Bool :=
  byteOf len + byteSum bytes + check == 0

/-- A frame is complete with its CHECK byte (R176): discarded in silence, or valid. -/
def frameComplete (len : Nat) (bytes : List Byte) (check : Byte) (s : State) : State :=
  let s := s.setPort { s.port with rx := .hunt, gap := none }
  if sumMatches len bytes check then
    validFrame { len := len, kind := byteAt bytes 0, tag := byteAt bytes 1, payload := bytes.drop 2 } s
  else s

/-- The receiver on **HP_RX** runs: the part is ACTIVE with its fast clock settled (R190, R193). -/
def receiving (s : State) : Bool := s.active && s.fastUp

/-- A byte with a good stop bit (R176). -/
def receiveByte (b : Byte) (s : State) : State :=
  match s.port.rx with
  | .hunt => if b = 0xC3 then s.setPort { s.port with rx := .length, gap := some (s.after (ms 5)) } else s
  | .length =>
    if 2 ≤ b.toNat ∧ b.toNat ≤ 62 then
      s.setPort { s.port with rx := .body b.toNat [], gap := some (s.after (ms 5)) }
    else s.setPort { s.port with rx := .hunt, gap := none }
  | .body len bytes =>
    if bytes.length < len then
      s.setPort { s.port with rx := .body len (bytes ++ [b]), gap := some (s.after (ms 5)) }
    else frameComplete len bytes b s

/-- HOST_BYTE_RECEIVED (R176): its start bit cancels a pending standby (R191). A byte that began in standby is lost (R193);
one that began during start-up and ends after it is received (DESIGN CHOICE, log entry 39). -/
def hostByte (b : Byte) (s : State) : State :=
  if byteLost s then s.setPort { s.port with wakeByte := none }
  else if receiving s then receiveByte b (cancelStandby .hostLine s)
  else s

/-- The bytes of a list arrive, one after the other. -/
def hostBytes (l : List Byte) (s : State) : State := l.foldl (fun s b => hostByte b s) s

/-- The bytes of a frame on **HP_RX** (R175): CHECK makes the sum from LEN on 0 modulo 256. -/
def frameBytes (f : Frame) : List Byte :=
  [0xC3, byteOf f.len, f.kind, f.tag] ++ f.payload ++ [0 - byteSum ([byteOf f.len, f.kind, f.tag] ++ f.payload)]

/-- HOST_FRAME_RECEIVED (R176): the CHECK byte of the frame in the receiver ends. -/
def hostFrameEnds (check : Byte) (s : State) : State :=
  if receiving s then
    match s.port.rx with
    | .hunt => s
    | .length => s
    | .body len bytes =>
      if bytes.length = len then frameComplete len bytes check (cancelStandby .hostLine s) else s
  else s

/-- HOST_FRAME_GAP_TIMEOUT (R176): the partial frame is discarded at the 5 ms gap, or at a low stop bit. A byte with a low
stop bit in HUNT is ignored whole, a 0xC3 too (DEDUCED, log entry 40). -/
def hostGap (lowStop : Bool) (s : State) : State :=
  match s.port.gap with
  | none => s
  | some t =>
    let s := if lowStop then cancelStandby .hostLine s else s.advanceTo t
    s.setPort { s.port with rx := .hunt, gap := none }

/-- A whole request frame of kind `k` arrives (R176): the receiver runs and was in HUNT; its first start bit cancels a
pending standby (R191). A frame whose first byte woke the part is lost: its other bytes are met in HUNT (R193). -/
def request (k : ReqKind) (tag : Byte) (payload : List Byte) (s : State) : State :=
  let f : Frame := { len := payload.length + 2, kind := k.byte, tag := tag, payload := payload }
  if receiving s && (s.port.rx == .hunt) then
    if byteLost s then hostBytes (frameBytes f) s else validFrame f (cancelStandby .hostLine s)
  else s

/-! ## The end of a reply (R178, R188, R191) -/

/-- The oldest buffered frame, if any, is taken (R178). -/
def takeNext (s : State) : State :=
  match s.port.buffer with
  | [] => s
  | f :: rest => takeRequest f (s.setPort { s.port with buffer := rest })

/-- The reply was RESTART's (R188). -/
def Reply.restarts (r : Reply) : Bool := (r.kind == ReqKind.restart.byte + 0x80) && (r.status == .ok)

/-- The reply in progress ends (R178): RESTART's resets the part, standby still pending is entered or, with a frame in the
buffer, cancelled (R191), and otherwise the next frame is taken. -/
def replyEnds (s : State) : State :=
  match s.port.reply with
  | none => s
  | some r =>
    let s := s.setPort { s.port with reply := none }
    if r.restarts then resetBy .restart s
    else if s.power.standbyPending then
      if s.port.buffer.isEmpty then enterStandby s else takeNext (cancelStandby .hostLine s)
    else takeNext s

/-! ## The silence monitor (R181) -/

/-- The silence timer has expired (R181). -/
def silenceExpired (s : State) : State :=
  let s := s.setPort { s.port with silence := none, silent := true }
  if s.drive.state.running then raise .portSilent none s else s

/-! ## The commands -/

/-- HOST_FRAME_RECEIVED (R176). -/
def execHostFrameReceived (check : Byte) (s : State) : Host.Outcome State Fault Refusal := .next (hostFrameEnds check s)

/-- HOST_FRAME_GAP_TIMEOUT (R176). -/
def execHostFrameGapTimeout (lowStop : Bool) (s : State) : Host.Outcome State Fault Refusal := .next (hostGap lowStop s)

/-- REPLY_END (R178). -/
def execReplyEnd (s : State) : Host.Outcome State Fault Refusal := .next (replyEnds s)

/-- SILENCE_TIMER_EXPIRY (R181). -/
def execSilenceTimerExpiry (s : State) : Host.Outcome State Fault Refusal :=
  .next (onExpiry s.port.silence (fun _ => silenceExpired) s)

/-- HOST_BYTE_RECEIVED (R176). -/
def execHostByteReceived (b : Byte) (s : State) : Host.Outcome State Fault Refusal := .next (hostByte b s)

end Sys2Proof.Machine
end

