-- ==== Sys2Proof/Machine/Requests.lean ====
section
/-! DEFINITION. The host's requests as commands: each is a whole valid frame of its kind arriving at the port (R176), its
payload laid out by R195; the port takes it at once, buffers it or loses it (R177). -/

namespace Sys2Proof.Machine

/-- IDENTIFY (R184). -/
def execIdentify (tag : Byte) (s : State) : Host.Outcome State Fault Refusal :=
  .next (request .identify tag [] s)

/-- GET_STATUS (R185). -/
def execGetStatus (tag : Byte) (selector : Byte) (s : State) : Host.Outcome State Fault Refusal :=
  .next (request .getStatus tag [selector] s)

/-- FETCH_REPORTS (R183). -/
def execFetchReports (tag : Byte) (s : State) : Host.Outcome State Fault Refusal :=
  .next (request .fetchReports tag [] s)

/-- KEEPALIVE (R184). -/
def execKeepalive (tag : Byte) (s : State) : Host.Outcome State Fault Refusal :=
  .next (request .keepalive tag [] s)

/-- RUN (R5). -/
def execRun (tag : Byte) (mode level : Byte) (s : State) : Host.Outcome State Fault Refusal :=
  .next (request .run tag [mode, level] s)

/-- STOP (R6). -/
def execStop (tag : Byte) (s : State) : Host.Outcome State Fault Refusal :=
  .next (request .stop tag [] s)

/-- HALT_DRIVE (R26): HALT with target DRIVE. -/
def execHaltDrive (tag : Byte) (s : State) : Host.Outcome State Fault Refusal :=
  .next (request .halt tag [0] s)

/-- HALT_CHARGE (R93, R169): HALT with target CHARGE. -/
def execHaltCharge (tag : Byte) (s : State) : Host.Outcome State Fault Refusal :=
  .next (request .halt tag [1] s)

/-- HALT_SENSING (R114): HALT with target SENSING. -/
def execHaltSensing (tag : Byte) (s : State) : Host.Outcome State Fault Refusal :=
  .next (request .halt tag [2] s)

/-- HALT_DOCK_LINK (R157): HALT with target DOCK_LINK. -/
def execHaltDockLink (tag : Byte) (s : State) : Host.Outcome State Fault Refusal :=
  .next (request .halt tag [3] s)

/-- CONFIGURE_DRIVE (R186, R32, R17). -/
def execConfigureDrive (tag : Byte) (rejectMs mode threshold : Byte) (pMax vDerate vFloor : BitVec 16)
    (s : State) : Host.Outcome State Fault Refusal :=
  .next
    (request .configureDrive tag
      ([rejectMs, mode, threshold] ++ bytes2 pMax ++ bytes2 vDerate ++ bytes2 vFloor)
      s)

/-- SET_LEVEL_ENTRY (R29). -/
def execSetLevelEntry (tag : Byte) (level : Byte) (speed : BitVec 32) (pLevel pRef clogRatio : BitVec 16)
    (s : State) : Host.Outcome State Fault Refusal :=
  .next (request .setLevelEntry tag ([level] ++ bytes4 speed ++ bytes2 pLevel ++ bytes2 pRef ++ bytes2 clogRatio) s)

/-- CONFIGURE_PACK (R66). -/
def execConfigurePack (tag : Byte) (capacity : BitVec 16) (s : State) : Host.Outcome State Fault Refusal :=
  .next (request .configurePack tag (bytes2 capacity) s)

/-- CONFIGURE_CHARGE (R71). -/
def execConfigureCharge (tag : Byte) (iCc vCellFull : BitVec 16) (s : State) : Host.Outcome State Fault Refusal :=
  .next (request .configureCharge tag (bytes2 iCc ++ bytes2 vCellFull) s)

/-- CONFIGURE_SENSING (R100, R113). -/
def execConfigureSensing (tag : Byte) (code rejectUs : Byte) (t1 t2 t3 : BitVec 16)
    (drain charge clock width : Byte) (cover : BitVec 16) (full : Byte)
    (s : State) : Host.Outcome State Fault Refusal :=
  .next
    (request .configureSensing tag
      ([code, rejectUs] ++ bytes2 t1 ++ bytes2 t2 ++ bytes2 t3 ++ [drain, charge, clock, width] ++ bytes2 cover ++ [full])
      s)

/-- REBASE_BIN (R112). -/
def execRebaseBin (tag : Byte) (s : State) : Host.Outcome State Fault Refusal :=
  .next (request .rebaseBin tag [] s)

/-- CONFIGURE_CHANNEL (R117). -/
def execConfigureChannel (tag : Byte) (channel clockCode preCode sample gap averaging : Byte)
    (s : State) : Host.Outcome State Fault Refusal :=
  .next (request .configureChannel tag [channel, clockCode, preCode, sample, gap, averaging] s)

/-- CONFIGURE_DOCK (R156). -/
def execConfigureDock (tag : Byte) (autoEvacuate duration level chargingEnabled : Byte)
    (s : State) : Host.Outcome State Fault Refusal :=
  .next (request .configureDock tag [autoEvacuate, duration, level, chargingEnabled] s)

/-- CONFIGURE_SUPPLY (R169). -/
def execConfigureSupply (tag : Byte) (busLimit iMaxOut : BitVec 16) (s : State) : Host.Outcome State Fault Refusal :=
  .next (request .configureSupply tag (bytes2 busLimit ++ bytes2 iMaxOut) s)

/-- MEASURE (R126). -/
def execMeasure (tag : Byte) (channel : Byte) (s : State) : Host.Outcome State Fault Refusal :=
  .next (request .measure tag [channel] s)

/-- MEASURE_FRESH (R126). -/
def execMeasureFresh (tag : Byte) (channel averaging : Byte) (s : State) : Host.Outcome State Fault Refusal :=
  .next (request .measureFresh tag [channel, averaging] s)

/-- GET_CONDITIONS (R137). -/
def execGetConditions (tag : Byte) (position : Byte) (s : State) : Host.Outcome State Fault Refusal :=
  .next (request .getConditions tag [position] s)

/-- ACK_CONDITION (R136). -/
def execAckCondition (tag : Byte) (kind occurrences : Byte) (s : State) : Host.Outcome State Fault Refusal :=
  .next (request .ackCondition tag [kind, occurrences] s)

/-- SET_WATCH (R141). -/
def execSetWatch (tag : Byte) (slot quantity direction : Byte) (threshold : BitVec 24) (hysteresis : BitVec 16)
    (s : State) : Host.Outcome State Fault Refusal :=
  .next (request .setWatch tag ([slot, quantity, direction] ++ bytes3 threshold ++ bytes2 hysteresis) s)

/-- CLEAR_WATCH (R141). -/
def execClearWatch (tag : Byte) (slot : Byte) (s : State) : Host.Outcome State Fault Refusal :=
  .next (request .clearWatch tag [slot] s)

/-- GET_WATCHES (R141). -/
def execGetWatches (tag : Byte) (s : State) : Host.Outcome State Fault Refusal :=
  .next (request .getWatches tag [] s)

/-- EVACUATE (R152). -/
def execEvacuate (tag : Byte) (s : State) : Host.Outcome State Fault Refusal :=
  .next (request .evacuate tag [] s)

/-- CANCEL_EVACUATION (R154). -/
def execCancelEvacuation (tag : Byte) (s : State) : Host.Outcome State Fault Refusal :=
  .next (request .cancelEvacuation tag [] s)

/-- SLEEP (R191). -/
def execSleep (tag : Byte) (s : State) : Host.Outcome State Fault Refusal :=
  .next (request .sleep tag [] s)

/-- RESTART (R188): the reset comes with REPLY_END. -/
def execRestart (tag : Byte) (s : State) : Host.Outcome State Fault Refusal :=
  .next (request .restart tag [] s)

end Sys2Proof.Machine
end

