-- ==== Sys2Proof/Machine/Dispatch.lean ====
section
/-! DEFINITION. One arm per command: each calls the command's own meaning. -/

namespace Sys2Proof.Machine

/-- The effect of a command on the state (on everything but the queue of waiting commands). -/
def exec (i : Instr) (s : State) : Host.Outcome State Fault Refusal :=
  match i with
  | .powerOnReset role evacFit => Sys2Proof.Machine.execPowerOnReset role evacFit s
  | .brownOutReset role evacFit => Sys2Proof.Machine.execBrownOutReset role evacFit s
  | .startUpComplete trimPassed => Sys2Proof.Machine.execStartUpComplete trimPassed s
  | .hostFrameReceived check => Sys2Proof.Machine.execHostFrameReceived check s
  | .hostFrameGapTimeout lowStop => Sys2Proof.Machine.execHostFrameGapTimeout lowStop s
  | .replyEnd => Sys2Proof.Machine.execReplyEnd s
  | .identify tag => Sys2Proof.Machine.execIdentify tag s
  | .getStatus tag selector => Sys2Proof.Machine.execGetStatus tag selector s
  | .fetchReports tag => Sys2Proof.Machine.execFetchReports tag s
  | .keepalive tag => Sys2Proof.Machine.execKeepalive tag s
  | .run tag mode level => Sys2Proof.Machine.execRun tag mode level s
  | .stop tag => Sys2Proof.Machine.execStop tag s
  | .haltDrive tag => Sys2Proof.Machine.execHaltDrive tag s
  | .haltCharge tag => Sys2Proof.Machine.execHaltCharge tag s
  | .haltSensing tag => Sys2Proof.Machine.execHaltSensing tag s
  | .haltDockLink tag => Sys2Proof.Machine.execHaltDockLink tag s
  | .configureDrive tag rejectMs mode threshold pMax vDerate vFloor => Sys2Proof.Machine.execConfigureDrive tag rejectMs mode threshold pMax vDerate vFloor s
  | .setLevelEntry tag level speed pLevel pRef clogRatio => Sys2Proof.Machine.execSetLevelEntry tag level speed pLevel pRef clogRatio s
  | .configurePack tag capacity => Sys2Proof.Machine.execConfigurePack tag capacity s
  | .configureCharge tag iCc vCellFull => Sys2Proof.Machine.execConfigureCharge tag iCc vCellFull s
  | .configureSensing tag code rejectUs t1 t2 t3 drain charge clock width cover full => Sys2Proof.Machine.execConfigureSensing tag code rejectUs t1 t2 t3 drain charge clock width cover full s
  | .rebaseBin tag => Sys2Proof.Machine.execRebaseBin tag s
  | .configureChannel tag channel clockCode preCode sample gap averaging => Sys2Proof.Machine.execConfigureChannel tag channel clockCode preCode sample gap averaging s
  | .configureDock tag autoEvacuate duration level chargingEnabled => Sys2Proof.Machine.execConfigureDock tag autoEvacuate duration level chargingEnabled s
  | .configureSupply tag busLimit iMaxOut => Sys2Proof.Machine.execConfigureSupply tag busLimit iMaxOut s
  | .measure tag channel => Sys2Proof.Machine.execMeasure tag channel s
  | .measureFresh tag channel averaging => Sys2Proof.Machine.execMeasureFresh tag channel averaging s
  | .getConditions tag position => Sys2Proof.Machine.execGetConditions tag position s
  | .ackCondition tag kind occurrences => Sys2Proof.Machine.execAckCondition tag kind occurrences s
  | .setWatch tag slot quantity direction threshold hysteresis => Sys2Proof.Machine.execSetWatch tag slot quantity direction threshold hysteresis s
  | .clearWatch tag slot => Sys2Proof.Machine.execClearWatch tag slot s
  | .getWatches tag => Sys2Proof.Machine.execGetWatches tag s
  | .evacuate tag => Sys2Proof.Machine.execEvacuate tag s
  | .cancelEvacuation tag => Sys2Proof.Machine.execCancelEvacuation tag s
  | .sleep tag => Sys2Proof.Machine.execSleep tag s
  | .restart tag => Sys2Proof.Machine.execRestart tag s
  | .silenceTimerExpiry => Sys2Proof.Machine.execSilenceTimerExpiry s
  | .triggerPinChange pressed => Sys2Proof.Machine.execTriggerPinChange pressed s
  | .triggerQualified => Sys2Proof.Machine.execTriggerQualified s
  | .pumpSettleExpiry pumpGood hall => Sys2Proof.Machine.execPumpSettleExpiry pumpGood hall s
  | .controlPeriod => Sys2Proof.Machine.execControlPeriod s
  | .spinUpTimeout => Sys2Proof.Machine.execSpinUpTimeout s
  | .coastTimerExpiry => Sys2Proof.Machine.execCoastTimerExpiry s
  | .hallEdge code counts => Sys2Proof.Machine.execHallEdge code counts s
  | .edgeTimeout => Sys2Proof.Machine.execEdgeTimeout s
  | .overcurrentTrip => Sys2Proof.Machine.execOvercurrentTrip s
  | .overcurrentLimit => Sys2Proof.Machine.execOvercurrentLimit s
  | .pumpNotGood => Sys2Proof.Machine.execPumpNotGood s
  | .staleLimit => Sys2Proof.Machine.execStaleLimit s
  | .lowSpeedLimit => Sys2Proof.Machine.execLowSpeedLimit s
  | .deratedOutLimit => Sys2Proof.Machine.execDeratedOutLimit s
  | .clogSuspectLimit => Sys2Proof.Machine.execClogSuspectLimit s
  | .clogClearLimit => Sys2Proof.Machine.execClogClearLimit s
  | .sweepTimerExpiry => Sys2Proof.Machine.execSweepTimerExpiry s
  | .tapMismatchLimit => Sys2Proof.Machine.execTapMismatchLimit s
  | .tapMatchLimit => Sys2Proof.Machine.execTapMatchLimit s
  | .thresholdPersistenceMet threshold => Sys2Proof.Machine.execThresholdPersistenceMet threshold s
  | .sensorEndCountLimit => Sys2Proof.Machine.execSensorEndCountLimit s
  | .busLowCountLimit => Sys2Proof.Machine.execBusLowCountLimit s
  | .terminationTimeReached => Sys2Proof.Machine.execTerminationTimeReached s
  | .prechargeTimerExpiry => Sys2Proof.Machine.execPrechargeTimerExpiry s
  | .topBalanceTimerExpiry => Sys2Proof.Machine.execTopBalanceTimerExpiry s
  | .sessionLimitExpiry => Sys2Proof.Machine.execSessionLimitExpiry s
  | .dockStatusTimerExpiry => Sys2Proof.Machine.execDockStatusTimerExpiry s
  | .restartDelayExpiry => Sys2Proof.Machine.execRestartDelayExpiry s
  | .impactPulse => Sys2Proof.Machine.execImpactPulse s
  | .impactQualified high => Sys2Proof.Machine.execImpactQualified high s
  | .impactDeadTimeEnd => Sys2Proof.Machine.execImpactDeadTimeEnd s
  | .windowClose => Sys2Proof.Machine.execWindowClose s
  | .gradeRise => Sys2Proof.Machine.execGradeRise s
  | .gradeFall => Sys2Proof.Machine.execGradeFall s
  | .scanTimerExpiry => Sys2Proof.Machine.execScanTimerExpiry s
  | .scanCompletion raws => Sys2Proof.Machine.execScanCompletion raws s
  | .debounceAccepted => Sys2Proof.Machine.execDebounceAccepted s
  | .binAbsentLimit => Sys2Proof.Machine.execBinAbsentLimit s
  | .binPresentLimit => Sys2Proof.Machine.execBinPresentLimit s
  | .postEvacCheck => Sys2Proof.Machine.execPostEvacCheck s
  | .conversionCompletion codes => Sys2Proof.Machine.execConversionCompletion codes s
  | .dockComparatorChange high => Sys2Proof.Machine.execDockComparatorChange high s
  | .dockedQualified => Sys2Proof.Machine.execDockedQualified s
  | .undockedQualified => Sys2Proof.Machine.execUndockedQualified s
  | .exchangeStart waitNs => Sys2Proof.Machine.execExchangeStart waitNs s
  | .linkIdleTimeout => Sys2Proof.Machine.execLinkIdleTimeout s
  | .linkContention => Sys2Proof.Machine.execLinkContention s
  | .responseTimeout => Sys2Proof.Machine.execResponseTimeout s
  | .linkFrameGapTimeout => Sys2Proof.Machine.execLinkFrameGapTimeout s
  | .linkResponseInvalid frame framingOk => Sys2Proof.Machine.execLinkResponseInvalid frame framingOk s
  | .linkFailureLimit outcome => Sys2Proof.Machine.execLinkFailureLimit outcome s
  | .identResponse payload => Sys2Proof.Machine.execIdentResponse payload s
  | .setpointResponse payload => Sys2Proof.Machine.execSetpointResponse payload s
  | .evacStartResponse answer => Sys2Proof.Machine.execEvacStartResponse answer s
  | .evacQueryResponse state elapsed reason => Sys2Proof.Machine.execEvacQueryResponse state elapsed reason s
  | .evacStopResponse state => Sys2Proof.Machine.execEvacStopResponse state s
  | .backoffExpiry => Sys2Proof.Machine.execBackoffExpiry s
  | .setpointPollExpiry => Sys2Proof.Machine.execSetpointPollExpiry s
  | .evacQueryPollExpiry => Sys2Proof.Machine.execEvacQueryPollExpiry s
  | .faultRetryExpiry => Sys2Proof.Machine.execFaultRetryExpiry s
  | .dockFrameDiscarded frame framingOk => Sys2Proof.Machine.execDockFrameDiscarded frame framingOk s
  | .identRequest => Sys2Proof.Machine.execIdentRequest s
  | .setpointRequest enable vLimit iLimit => Sys2Proof.Machine.execSetpointRequest enable vLimit iLimit s
  | .evacStartRequest duration => Sys2Proof.Machine.execEvacStartRequest duration s
  | .evacQueryRequest => Sys2Proof.Machine.execEvacQueryRequest s
  | .evacStopRequest => Sys2Proof.Machine.execEvacStopRequest s
  | .responseSendStart => Sys2Proof.Machine.execResponseSendStart s
  | .responderContention => Sys2Proof.Machine.execResponderContention s
  | .keepaliveExpiry => Sys2Proof.Machine.execKeepaliveExpiry s
  | .stickSenseChange high => Sys2Proof.Machine.execStickSenseChange high s
  | .stickPresentQualified => Sys2Proof.Machine.execStickPresentQualified s
  | .stickAbsentQualified => Sys2Proof.Machine.execStickAbsentQualified s
  | .outputPeriod => Sys2Proof.Machine.execOutputPeriod s
  | .outputStaleLimit => Sys2Proof.Machine.execOutputStaleLimit s
  | .recoveryTimerExpiry => Sys2Proof.Machine.execRecoveryTimerExpiry s
  | .durationExpiry => Sys2Proof.Machine.execDurationExpiry s
  | .hostLineEdge => Sys2Proof.Machine.execHostLineEdge s
  | .fastClockSettled => Sys2Proof.Machine.execFastClockSettled s
  | .hostByteReceived b => Sys2Proof.Machine.execHostByteReceived b s
  | .pwmPeriodStart => Sys2Proof.Machine.execPwmPeriodStart s
  | .responseStartBit => Sys2Proof.Machine.execResponseStartBit s

end Sys2Proof.Machine
end

