-- ==== Sys2Proof/Safety.lean ====
section
/-! DEFINITION. The terms in which claims about the part are stated: what a command leaves unchanged, when it completes,
what a request finds and what its reply carries, what a stop of the drive leaves, and the laws that the manual states over
every event. -/

namespace Sys2Proof.Machine

/-! ## Frames of effects -/

/-- The fields of the state, as names for frame claims. -/
inductive Block where
  | now
  | role
  | evacFit
  | trim
  | power
  | pins
  | drive
  | motor
  | driveCfg
  | pack
  | supply
  | monitor
  | counter
  | session
  | chargeCfg
  | output
  | sensingCfg
  | dirt
  | fill
  | seq
  | conds
  | watches
  | link
  | dockCfg
  | responder
  | cycle
  | port
  | reports
  | lost
  | free
  | pending
deriving DecidableEq, Repr

/-- A field holds the same value in two states. -/
def Block.same (b : Block) (s t : State) : Prop :=
  match b with
  | .now => t.now = s.now
  | .role => t.role = s.role
  | .evacFit => t.evacFit = s.evacFit
  | .trim => t.trim = s.trim
  | .power => t.power = s.power
  | .pins => t.pins = s.pins
  | .drive => t.drive = s.drive
  | .motor => t.motor = s.motor
  | .driveCfg => t.driveCfg = s.driveCfg
  | .pack => t.pack = s.pack
  | .supply => t.supply = s.supply
  | .monitor => t.monitor = s.monitor
  | .counter => t.counter = s.counter
  | .session => t.session = s.session
  | .chargeCfg => t.chargeCfg = s.chargeCfg
  | .output => t.output = s.output
  | .sensingCfg => t.sensingCfg = s.sensingCfg
  | .dirt => t.dirt = s.dirt
  | .fill => t.fill = s.fill
  | .seq => t.seq = s.seq
  | .conds => t.conds = s.conds
  | .watches => t.watches = s.watches
  | .link => t.link = s.link
  | .dockCfg => t.dockCfg = s.dockCfg
  | .responder => t.responder = s.responder
  | .cycle => t.cycle = s.cycle
  | .port => t.port = s.port
  | .reports => t.reports = s.reports
  | .lost => t.lost = s.lost
  | .free => t.free = s.free
  | .pending => t.pending = s.pending

/-- `t` differs from `s` in the listed fields at most. -/
def ChangesOnly (l : List Block) (s t : State) : Prop := ∀ b : Block, b ∉ l → b.same s t

/-- The command answers a next state, and the claim holds of it. -/
def Completes (c : Instr) (s : State) (claim : State → Prop) : Prop := ∃ t, exec c s = .next t ∧ claim t

/-! ## Reports and times -/

/-- `t`'s report queue is `s`'s with the reports of `l` offered in order (R182): each is appended while fewer than 16 are
held, and the lost flag is set once one is discarded. -/
def Queued (s t : State) (l : List Report) : Prop :=
  t.reports = (s.reports ++ l).take 16 ∧ t.lost = (s.lost || decide (16 < s.reports.length + l.length))

/-- The report queue holds at most 16 reports. -/
abbrev ReportsFit (s : State) : Prop := s.reports.length ≤ 16

/-- The moment at which a timer with deadline `d` expires (log entry 1). -/
def State.atDeadline (s : State) (d : Nat) : Nat := max s.now d

/-- The moment of a Hall edge that falls `counts` counts of the 8 MHz clock from now (R15, log entry 38). -/
def State.edgeMoment (s : State) (counts : BitVec 3) : Nat := s.now + 125 * counts.toNat

/-- The free-running 32-bit count of the 8 MHz clock at that edge (R15, log entry 38). -/
def State.edgeCount (s : State) (counts : BitVec 3) : BitVec 32 := BitVec.ofNat 32 (s.edgeMoment counts / 125)

/-- The reports of the watches that a publication of `q` with value `v` fires, in slot order (R140, R197), as of `t`'s
time. -/
def firedReports (q : Quantity) (v : Int) (s t : State) : List Report :=
  ([0, 1, 2, 3, 4, 5, 6, 7] : List (Fin 8)).filterMap
    (fun i =>
      if watchFires s.watches[i] q v then
        some { kind := .watchFired, sub := i.val, time := t.partTime, data := byteOf q.code :: le4 v }
      else none)

/-- `q` was published with value `v` on the watches of `s` (R140): each slot made the test of its state. -/
def Watched (q : Quantity) (v : Int) (s t : State) : Prop :=
  ∀ i : Fin 8, t.watches[i] = watchAfter s.watches[i] q v

/-- `q` was published with value `v`, and the reports of the watches it fired are all that was queued (R140). -/
def Published (q : Quantity) (v : Int) (s t : State) : Prop :=
  Watched q v s t ∧ Queued s t (firedReports q v s t)

/-- No waiting entry is for the host alone, so that none can be displaced (R122). -/
abbrev NoPortAlone (s : State) : Prop := ∀ e ∈ s.seq.queue, e.set.portAlone = false

/-! ## Requests and replies -/

/-- The port takes a valid frame at once (R177): the part is ACTIVE with its fast clock running, the receiver is in HUNT,
no reply is in progress, the buffer is empty, and the frame is not the one that woke the part (R193). -/
abbrev Listening (s : State) : Prop :=
  s.power.state = .active ∧ s.power.fast = .running ∧ s.port.rx = .hunt ∧ s.port.reply = none ∧ s.port.buffer = [] ∧
  byteLost s = false

/-- What the arrival of a valid frame leaves before it is taken: a pending standby cancelled (R191), the silence timer
restarted, the silent mark cleared and PORT_SILENT ended (R181). -/
def received (s : State) : State := heard (cancelStandby .hostLine s)

/-- The port of `t` after a reply was composed on the port of `h` (R178, R180): the reply carries the request's KIND plus
0x80, its TAG, the status, the three FLAGS values and the payload; the overrun flag is carried and cleared. -/
def Replied (h t : State) (kind tag : Byte) (st : Status) (payload : List Byte) : Prop :=
  t.port =
    { h.port with
      overrun := false
      reply := some
        { kind := kind + 0x80
          tag := tag
          status := st
          reportsPending := !t.reports.isEmpty
          overrun := h.port.overrun
          role := h.role
          payload := payload } }

/-- A request that takes effect in the listed fields (beside the port and the model's free counter): what `received`
left is otherwise unchanged. -/
def Answered (s t : State) (kind tag : Byte) (st : Status) (payload : List Byte) (l : List Block) : Prop :=
  Replied (received s) t kind tag st payload ∧ ChangesOnly (.port :: .free :: l) (received s) t

/-- The frame that a request's command spells (R175, R195). -/
def requestFrame (c : Instr) : Option Frame :=
  let f := fun (kind tag : Byte) (p : List Byte) =>
    some ({ len := p.length + 2, kind := kind, tag := tag, payload := p } : Frame)
  match c with
  | .identify tag => f 0x01 tag []
  | .getStatus tag selector => f 0x02 tag [selector]
  | .fetchReports tag => f 0x03 tag []
  | .keepalive tag => f 0x04 tag []
  | .run tag mode level => f 0x10 tag [mode, level]
  | .stop tag => f 0x11 tag []
  | .haltDrive tag => f 0x12 tag [0]
  | .haltCharge tag => f 0x12 tag [1]
  | .haltSensing tag => f 0x12 tag [2]
  | .haltDockLink tag => f 0x12 tag [3]
  | .configureDrive tag r m th p d v => f 0x20 tag ([r, m, th] ++ bytes2 p ++ bytes2 d ++ bytes2 v)
  | .setLevelEntry tag k n p q c => f 0x21 tag ([k] ++ bytes4 n ++ bytes2 p ++ bytes2 q ++ bytes2 c)
  | .configurePack tag c => f 0x22 tag (bytes2 c)
  | .configureCharge tag i v => f 0x23 tag (bytes2 i ++ bytes2 v)
  | .configureSensing tag a r t1 t2 t3 d c k w v u =>
    f 0x24 tag ([a, r] ++ bytes2 t1 ++ bytes2 t2 ++ bytes2 t3 ++ [d, c, k, w] ++ bytes2 v ++ [u])
  | .rebaseBin tag => f 0x25 tag []
  | .configureChannel tag n a b c d e => f 0x26 tag [n, a, b, c, d, e]
  | .configureDock tag a d l e => f 0x27 tag [a, d, l, e]
  | .configureSupply tag b i => f 0x28 tag (bytes2 b ++ bytes2 i)
  | .measure tag n => f 0x30 tag [n]
  | .measureFresh tag n a => f 0x31 tag [n, a]
  | .getConditions tag p => f 0x40 tag [p]
  | .ackCondition tag k o => f 0x41 tag [k, o]
  | .setWatch tag n q d th hy => f 0x42 tag ([n, q, d] ++ bytes3 th ++ bytes2 hy)
  | .clearWatch tag n => f 0x43 tag [n]
  | .getWatches tag => f 0x44 tag []
  | .evacuate tag => f 0x50 tag []
  | .cancelEvacuation tag => f 0x51 tag []
  | .sleep tag => f 0x60 tag []
  | .restart tag => f 0x61 tag []
  | _ => none

/-- The state a command's outcome leaves, if it is a next state. -/
def afterCommand (c : Instr) (s : State) : Option State :=
  match exec c s with
  | .next t => some t
  | .fault _ => none
  | .refused _ => none

/-- The bytes of a list arrive one after the other, each a HOST_BYTE_RECEIVED command. -/
def receiveAll (l : List Byte) (s : State) : Option State :=
  match l with
  | [] => some s
  | b :: rest =>
    match afterCommand (.hostByteReceived b) s with
    | none => none
    | some t => receiveAll rest t

/-- The kinds that apply in handle role only, and the one that applies in dock role only (10.6). -/
def wrongRole (kind : Byte) (r : Role) : Bool :=
  match r with
  | .handle => kind == 0x28
  | .dock => ([0x10, 0x11, 0x22, 0x23, 0x50, 0x51, 0x60] : List Byte).contains kind

/-- The request that a command of the dock link's responder stands for, with its payload (R198). -/
def linkCommand (c : Instr) : Option (Exch × List Byte) :=
  match c with
  | .identRequest => some (.ident, [])
  | .setpointRequest en v i => some (.setpoint, [if en then 1 else 0] ++ bytes2 v ++ bytes2 i)
  | .evacStartRequest d => some (.evacStart, [d])
  | .evacQueryRequest => some (.evacQuery, [])
  | .evacStopRequest => some (.evacStop, [])
  | _ => none

/-- The frame of kind byte `k` with payload `p` on **DOCK_DATA** (R142). -/
def linkBytes (k : Byte) (p : List Byte) : List Byte :=
  [0xA5, k, byteOf p.length] ++ p ++ [byteXor ([k, byteOf p.length] ++ p)]

/-! ## Stops of the drive (R21, R22) -/

/-- The drive, its outputs and the impact counter after a stop with reason `r` made by a running drive (R21, R22, R99):
`t` stands after the stop, at its time. -/
def StopMade (r : StopReason) (s t : State) : Prop :=
  t.drive =
    { s.drive with
      state := .coasting
      armed := r.keeps && s.drive.armed
      trigOn := (s.driveCfg.mode == .hold) && s.drive.trigOn
      pendingStart := r.keeps && s.drive.pendingStart
      nTgt := 0
      nEff := 0
      duty := 0
      pMeas := 0
      pCeil := 0
      lastStop := some r
      stale := 0
      lowSpeed := 0
      overcurrent := 0
      derated := 0
      suspect := 0
      clear := 0 } ∧
  t.motor =
    { s.motor with
      settle := none
      spinUp := none
      coast := some (t.now + 4000000000)
      period := some (s.motor.period.getD (t.now + 2000000))
      pumpOn := false
      bridge := none
      pwmDuty := 0
      pwmNext := none
      tripped := false } ∧
  t.dirt = { s.dirt with window := none, windowTimer := none, ring := [], grade := 0, rise := 0, fall := 0 }

/-- The two reports of a stop (R22, R197), of a drive that stood as in `s`, queued in `t`'s event. -/
def stopReportsOf (r : StopReason) (s t : State) : List Report :=
  let ran := (t.partTime - s.drive.runStart).toNat
  let total := if s.role = .handle then s.dirt.total else 0
  let used := if s.role = .handle then max 0 (s.drive.startCharge - s.counter.q) else 0
  [{ kind := .driveState, sub := 1, time := t.partTime, data := byteOf r.code :: le4 s.drive.nMeas },
   { kind := .sessionSummary
     sub := 0
     time := t.partTime
     data :=
       le2 (min 65535 (ran / 100) : Nat) ++ le2 (min 65535 total : Nat) ++ le2 (min 65535 (used.tdiv 100)) }]

/-- A condition of kind `k` is ACTIVE in `t` with detail `d`, raised in this event on the list of `s` (R131). -/
def Raised (k : CondKind) (d : Option Detail) (s t : State) : Prop :=
  t.conds =
    match condOf s k with
    | none =>
      s.conds ++
        [{ kind := k, active := true, first := t.partTime, last := t.partTime, occurrences := 1, detail := d }]
    | some _ =>
      s.conds.map
        (fun r =>
          if r.kind = k then
            { r with active := true, last := t.partTime, occurrences := min 255 (r.occurrences + 1), detail := d }
          else r)

/-- The CONDITION_RAISED report of a raise of `k` on the list of `s`, queued in `t`'s event (R131, R197). -/
def raisedReportOf (k : CondKind) (d : Option Detail) (s t : State) : Report :=
  let occ :=
    match condOf s k with
    | none => 1
    | some r => min 255 (r.occurrences + 1)
  { kind := .conditionRaised
    sub := k.code
    time := t.partTime
    data := [byteOf occ, boolByte d.isSome] ++ detailField d }

/-- The record of kind `k` became ENDED in `t`, and nothing else of the list changed (R132). -/
def Ended (k : CondKind) (s t : State) : Prop :=
  t.conds = s.conds.map (fun r => if r.kind = k then { r with active := false } else r)

/-- A stop in handle role and nothing else (R22): the drive, its outputs, the impact counter and the two reports. -/
def StopOnly (r : StopReason) (s t : State) : Prop :=
  StopMade r s t ∧ Queued s t (stopReportsOf r s t) ∧ ChangesOnly [.now, .drive, .motor, .dirt, .reports, .lost] s t

/-- A stop for a fault of the drive's own in handle role (R24): the stop carries its own reason, and the raise follows its
two reports. -/
def FaultStop (r : StopReason) (k : CondKind) (d : Option Detail) (s t : State) : Prop :=
  StopMade r s t ∧ Raised k d s t ∧ Queued s t (stopReportsOf r s t ++ [raisedReportOf k d s t]) ∧
  ChangesOnly [.now, .drive, .motor, .dirt, .conds, .reports, .lost] s t

/-- A raise finds nothing to stop or suspend: handle role, ACTIVE, the drive STOPPED or COASTING, no session in QUALIFY or
a charging phase, and no standby pending. -/
abbrev Calm (s : State) : Prop :=
  s.role = .handle ∧ s.power.state = .active ∧ s.drive.state.running = false ∧ suspendable s = false ∧
  s.power.standbyPending = false

/-- A raise in a calm state (R131, R22, R4): the record, the report and, for a kind that inhibits the drive, trigger-on
off in LATCH mode. -/
def RaisedCalmly (k : CondKind) (d : Option Detail) (s t : State) : Prop :=
  Raised k d s t ∧ Queued s t [raisedReportOf k d s t] ∧
  t.drive =
    { s.drive with trigOn := s.drive.trigOn && (!k.inhibitsDrive || (s.driveCfg.mode == .hold)) }

/-- The CONDITION_ENDED report of kind `k` on the list of `s` (R132, R197). -/
def endedReportOf (k : CondKind) (s t : State) : Report :=
  { kind := .conditionEnded
    sub := k.code
    time := t.partTime
    data :=
      [byteOf
        (match condOf s k with
          | none => 0
          | some r => r.occurrences)] }

/-- The EVACUATION ABORTED report of a run that a stop of the fan for FAN_FAULT ends, if a run is live (R173, R197). -/
def fanFaultReportsOf (s t : State) : List Report :=
  if s.role = .dock ∧ evacLive s.cycle.state = true then
    [{ kind := .evacuation
       sub := 2
       time := t.partTime
       data := [byteOf (cycleElapsed ({ s with now := t.now } : State)), 3] }]
  else []

/-- The reports of the conditions that end when the fan has come to rest (R133), in their order (log entry 20). -/
def restedReportsOf (s t : State) : List Report :=
  let kinds : List CondKind :=
    if hallValid s.pins.hall then [.motorStall, .driveOvercurrent, .gateSupplyFault, .hallFault]
    else [.motorStall, .driveOvercurrent, .gateSupplyFault]
  kinds.filterMap (fun k => if condActive s k then some (endedReportOf k s t) else none)

/-- The WAKE report of a standby that was pending and is cancelled by the raise of a condition (R191), if it was. -/
def cancelledReportsOf (s t : State) : List Report :=
  if s.power.standbyPending then [{ kind := .wake, sub := 5, time := t.partTime, data := [0xFF, 0xFF, 0xFF, 0xFF] }]
  else []

/-! ## The arbiter's choice (R118, R123) -/

/-- The time of one conversion of `n` averaged conversions with the codes `k`, in ns (R116, R118). -/
def conversionTime (k : Codes) (n : Nat) : Nat :=
  let mhz := if k.clock = 0 then 8 else if k.clock = 1 then 6 else if k.clock = 2 then 4 else 3
  let pre := if k.pre = 0 then 0 else if k.pre = 1 then 2 else if k.pre = 2 then 4 else 8
  n * (((pre + 4 * (k.sample + 1) + (3 + k.gap) + 14) * 1000 + mhz - 1) / mhz + 200)

/-- The entry `e`, at place `i` of the queue, is the one to choose: the oldest of the most urgent class. -/
abbrev Chosen (i : Nat) (e : Entry) (s : State) : Prop :=
  s.seq.queue[i]? = some e ∧ (∀ x ∈ s.seq.queue.take i, e.cls < x.cls) ∧ ∀ x ∈ s.seq.queue, e.cls ≤ x.cls

/-- The chosen entry left the queue and its conversion started, with its set and count and the channel's codes. -/
def ConversionStarted (i : Nat) (e : Entry) (s t : State) : Prop :=
  t.seq.queue = s.seq.queue.eraseIdx i ∧
  t.seq.inFlight =
    some
      { chan := e.chan
        set := e.set
        count := e.count
        codes := (s.chan e.chan).codes
        endsAt := t.now + conversionTime (s.chan e.chan).codes e.count }

/-- The MEASUREMENT report of the completed conversion `f`, of the record that it left (R124 step 5, R197). -/
def measurementOf (f : Conversion) (t : State) : Report :=
  let r := t.chan f.chan
  let n := if 8 ≤ f.count then 3 else if 4 ≤ f.count then 2 else if 2 ≤ f.count then 1 else 0
  { kind := .measurement
    sub := 0
    time := t.partTime
    data := byteOf f.chan.number :: (le3 r.value ++ le2 (r.raw + 4096 * r.mark.code + 16384 * n : Nat)) }

/-- A delivery to PACK does not complete a sweep (R49, R68). -/
abbrev SweepGoesOn (f : Conversion) (s : State) : Prop :=
  f.set.pack = false ∨ ∀ l ∈ s.monitor.sweep, l.length + 1 < (if s.role = .handle then 11 else 3)

/-! ## The settings of CONFIGURE_DRIVE (R186, R17, R32, R194) -/

/-- The settings that a CONFIGURE_DRIVE leaves of `c`: each field given brought into its range, a keep value leaving the
stored one, V_floor at most 100 mV below V_derate. -/
def storedDriveCfg (c : DriveCfg) (r m th : Byte) (p v f : BitVec 16) : DriveCfg :=
  let vd := if v = 0xFFFF then c.vDerate else max 3100 (min 3900 (v.toNat : Int))
  { c with
    rejectMs :=
      if r = 0xFF then c.rejectMs
      else if 16 ≤ r.toNat then 16 else if 4 ≤ r.toNat then 4 else if 1 ≤ r.toNat then 1 else 0
    mode := if m = 0xFF then c.mode else if m = 0 then .hold else .latch
    threshold := if th = 0xFF then c.threshold else 5 * (max 20 (min 60 (th.toNat : Int))).tdiv 5
    pMax := if p = 0xFFFF then c.pMax else max 100 (min 600 (p.toNat : Int))
    vDerate := vd
    vFloor := max 2700 (min (vd - 100) (if f = 0xFFFF then c.vFloor else (f.toNat : Int))) }

/-- A field given to a CONFIGURE_DRIVE was moved by its adjustment, or a kept V_floor was (R32, R186). -/
abbrev DriveFieldMoved (c : DriveCfg) (r m th : Byte) (p v f : BitVec 16) : Prop :=
  let n := storedDriveCfg c r m th p v f
  (r ≠ 0xFF ∧ n.rejectMs ≠ r.toNat) ∨ (th ≠ 0xFF ∧ n.threshold ≠ (th.toNat : Int)) ∨
  (p ≠ 0xFFFF ∧ n.pMax ≠ (p.toNat : Int)) ∨ (v ≠ 0xFFFF ∧ n.vDerate ≠ (v.toNat : Int)) ∨
  (if f = 0xFFFF then n.vFloor ≠ c.vFloor else n.vFloor ≠ (f.toNat : Int))

/-- The six settings as the reply carries them (R186, R195). -/
def driveCfgPayload (c : DriveCfg) : List Byte :=
  [byteOf c.rejectMs, byteOf c.mode.code, byteOf c.threshold] ++ le2 c.pMax ++ le2 c.vDerate ++ le2 c.vFloor

/-! ## Starts of the drive (R8) -/

/-- The drive started from `s` (R8), at `t`'s time and in `t`'s mode: its record, the pump and its settle timer, the
session impact total, and the ceiling of the start (R38). -/
def Started (s t : State) : Prop :=
  t.drive =
    { s.drive with
      state := .priming
      mode := t.drive.mode
      armed := t.drive.armed
      trigPressed := t.drive.trigPressed
      trigOn := t.drive.trigOn
      runStart := t.partTime
      startCharge := if s.role = .handle then s.counter.q else 0
      nTgt := (levelUsed t).speed
      levelSeen := levelInUse t
      nEff := 0
      duty := 0
      stale := 0
      lowSpeed := 0
      overcurrent := 0
      derated := 0
      suspect := 0
      clear := 0
      pendingStart := false
      pCeil := t.drive.pCeil
      limit := t.drive.limit
      terms := termsNow t } ∧
  t.motor.pumpOn = true ∧ t.motor.settle = some (t.now + 2000000) ∧ t.dirt.total = 0

/-- P_ceil is the least of the terms in force, and the limiting term is the first to have that value (R38). -/
def CeilingLeast (t : State) : Prop :=
  (termList t.role t.drive.terms t.output.busLimit).find? (fun x => decide (x.1 = t.drive.pCeil)) =
    some (t.drive.pCeil, t.drive.limit) ∧
  ∀ x ∈ termList t.role t.drive.terms t.output.busLimit, t.drive.pCeil ≤ x.1

/-- The DRIVE_STATE START report (R8, R197). -/
def startReportOf (t : State) : Report :=
  { kind := .driveState, sub := 0, time := t.partTime, data := t.drive.mode.bytes ++ le4 t.drive.nTgt }

/-- The DRIVE_STATE START_BLOCKED report (R7, R197) for the first drive-inhibiting record, if any. -/
def blockedReportsOf (s t : State) : List Report :=
  match firstInhibit s with
  | none => []
  | some r => [{ kind := .driveState, sub := 3, time := t.partTime, data := [byteOf r.kind.code] }]

/-! ## The checks of a completed sweep (R55 to R60, R64, R69)

`s` stands before the event that completes the sweep, `t` after it, with the new record. -/

/-- The tap check (R55): its two counts, and CELL_TAP_FAULT raised at the third mismatched or ended at the third matched
sweep. -/
def TapChecked (s t : State) : Prop :=
  let d := t.pack.cells.toList.sum - t.pack.packMv
  let m := s.monitor.counts
  let m' := t.monitor.counts
  if condActive s .cellTapFault = true then
    m'.mismatch = m.mismatch ∧
    (if d < -300 ∨ 300 < d then m'.matched = 0 ∧ condActive t .cellTapFault = true
     else if m.matched < 2 then m'.matched = m.matched + 1 ∧ condActive t .cellTapFault = true
     else m'.matched = 0 ∧ condActive t .cellTapFault = false)
  else
    m'.matched = m.matched ∧
    (if ¬ (d < -300 ∨ 300 < d) then m'.mismatch = 0 ∧ condActive t .cellTapFault = false
     else if m.mismatch < 2 then m'.mismatch = m.mismatch + 1 ∧ condActive t .cellTapFault = false
     else
       m'.mismatch = 0 ∧
       (condOf t .cellTapFault).map (fun r => (r.active, r.detail, r.last)) = some (true, some (.number d), t.partTime))

/-- The sweeps a raise test must hold for (R56). -/
def sweepsNeeded (k : Threshold) : Nat :=
  match k with
  | .cellOvervolt => 2
  | .cellUndervolt => 3
  | .packOvertemp => 2
  | .bridgeOvertemp => 2
  | .tempSensorFault => 1
  | .cellImbalance => 3

/-- The thermistor readings of the role's record: the bridge temperature and the two marks (R53, R68). -/
def thermistorsOf (t : State) : Int × Mark × Mark :=
  match t.role with
  | .handle => (t.pack.bridgeT, t.pack.packMark, t.pack.bridgeMark)
  | .dock => (t.supply.bridgeT, t.supply.ambientMark, t.supply.bridgeMark)

/-- The raise test of a threshold (R56). -/
def raiseLimit (k : Threshold) (t : State) : Bool :=
  match k with
  | .cellOvervolt => decide (4250 ≤ t.pack.vmax)
  | .cellUndervolt => decide (t.pack.vmin ≤ 2800)
  | .packOvertemp => decide (720 ≤ t.pack.packT)
  | .bridgeOvertemp => decide (1000 ≤ (thermistorsOf t).1)
  | .tempSensorFault => decide ((thermistorsOf t).2 ≠ (.none, .none))
  | .cellImbalance => decide (300 ≤ t.pack.vmax - t.pack.vmin)

/-- The end test of a threshold (R56). -/
def endLimit (k : Threshold) (t : State) : Bool :=
  match k with
  | .cellOvervolt => decide (t.pack.vmax ≤ 4150)
  | .cellUndervolt => decide (3000 ≤ t.pack.vmin)
  | .packOvertemp => decide (t.pack.packT ≤ 600)
  | .bridgeOvertemp => decide ((thermistorsOf t).1 ≤ 850)
  | .tempSensorFault => decide ((thermistorsOf t).2 = (.none, .none))
  | .cellImbalance => decide (t.pack.vmax - t.pack.vmin ≤ 200)

/-- A threshold's check (R57): CELL_IMBALANCE at rest only (R60); its raise at the persistence, with the present time and
its detail; the end of an ACTIVE one at its end test, of TEMP_SENSOR_FAULT at the third sweep without a mark (R59). -/
def ThresholdChecked (k : Threshold) (s t : State) : Prop :=
  let c := thresholdKind k
  let n := raiseCount k s.monitor.counts
  let n' := raiseCount k t.monitor.counts
  let e := s.monitor.counts.sensorEnd
  let e' := t.monitor.counts.sensorEnd
  if k = .cellImbalance ∧ ¬ (s.drive.state = .stopped ∧ -99 ≤ t.pack.packMa ∧ t.pack.packMa ≤ 99) then
    n' = n ∧ condActive t c = condActive s c
  else if condActive s c = true then
    n' = n ∧
    (if k ≠ .tempSensorFault then condActive t c = !endLimit k t
     else if endLimit k t = false then e' = 0 ∧ condActive t c = true
     else if e < 2 then e' = e + 1 ∧ condActive t c = true
     else e' = 0 ∧ condActive t c = false)
  else if raiseLimit k t = false then n' = 0 ∧ condActive t c = false
  else if n + 1 < sweepsNeeded k then n' = n + 1 ∧ condActive t c = false
  else
    n' = 0 ∧
    (condOf t c).map (fun r => (r.active, r.detail, r.last)) = some (true, some (thresholdDetail k t), t.partTime)

/-- The BUS_LOW check of a supply sweep (R69). -/
def BusLowChecked (s t : State) : Prop :=
  let v := t.supply.busMv
  let n := s.monitor.counts.busLow
  let n' := t.monitor.counts.busLow
  if condActive s .busLow = true then n' = n ∧ condActive t .busLow = decide (v < 32000)
  else if 30000 ≤ v then n' = 0 ∧ condActive t .busLow = false
  else if n = 0 then n' = 1 ∧ condActive t .busLow = false
  else
    n' = 0 ∧
    (condOf t .busLow).map (fun r => (r.active, r.detail, r.last)) = some (true, some (.number v), t.partTime)

/-- The rest table (R64): the percentage of a Vmin. -/
def restPercentage (v : Int) : Int :=
  if v ≤ 3000 then 0
  else if 4200 ≤ v then 100
  else if v < 3450 then ((v - 3000) * 10).tdiv 450
  else if v < 3650 then 10 + ((v - 3450) * 30).tdiv 200
  else if v < 3850 then 40 + ((v - 3650) * 30).tdiv 200
  else if v < 4050 then 70 + ((v - 3850) * 20).tdiv 200
  else 90 + ((v - 4050) * 10).tdiv 150

/-! ## The charge controller's work on a completed sweep (R75 to R86) -/

/-- A charge-inhibiting condition was raised between two states (R54, R78). -/
abbrev ChargeStruck (s t : State) : Prop :=
  ∃ k ∈ CondKind.all, k.inhibitsCharge = true ∧ condActive s k = false ∧ condActive t k = true

/-- The termination time of CONST_VOLTAGE, `dt` ms after the previous sweep completion (R84). -/
def terminationTime (dt : Nat) (s t : State) : Nat :=
  if s.session.dock.status = .limited then s.session.termination
  else if -t.pack.packMa ≤ 150 then min 60000 (s.session.termination + dt)
  else 0

/-- The phase that the phase decision of phase `p` leaves (R77, R80 to R86). -/
def decidedPhase (p : Phase) (dt : Nat) (s t : State) : Phase :=
  let v := t.pack
  match p with
  | .none => .none
  | .qualify =>
    if chargeInhibited t = true ∨ s.link.state ≠ .linked then .suspended
    else if s.drive.state ≠ .stopped ∨ s.dockCfg.chargingEnabled = false then .qualify
    else if v.vmin < 3000 then .precharge
    else if v.vmin ≤ 4050 then .constCurrent
    else .done
  | .precharge => if 3000 ≤ v.vmin then .constCurrent else .precharge
  | .constCurrent => if s.chargeCfg.vCellFull ≤ v.vmax then .constVoltage else .constCurrent
  | .constVoltage =>
    if terminationTime dt s t < 60000 then .constVoltage else if 20 < v.vmax - v.vmin then .topBalance else .done
  | .topBalance => if v.vmax - v.vmin ≤ 20 then .done else .topBalance
  | .done => if v.vmin ≤ 4050 then .qualify else .done
  | .suspended =>
    if s.link.state = .linked ∧ chargeInhibited t = false ∧ s.session.dock.status ≠ .fault then .qualify
    else .suspended
  | .failed => .failed

/-- The charge controller's work on a completed sweep of an active stick (R75): CHARGE_TEMP (R76), the end test of
CHARGE_FAILED (R88), the suspension by a raise (R78) before the one phase decision, DONE setting the counter full (R65),
and the balance set recomputed (R91, R92). -/
def ChargeWorked (s t : State) : Prop :=
  let p := s.session.phase
  let q := if ChargeStruck s t ∧ (p = .qualify ∨ p.charging = true) then .suspended else p
  let temp := t.pack.packT
  (condActive t .chargeTemp =
    if p = .none then condActive s .chargeTemp
    else if condActive s .chargeTemp then !decide (30 ≤ temp ∧ temp ≤ 420)
    else decide (temp < 0 ∨ 450 < temp)) ∧
  (condActive t .chargeFailed = (condActive s .chargeFailed && !decide (-99 ≤ t.pack.packMa ∧ t.pack.packMa ≤ 99))) ∧
  t.session.phase = decidedPhase q (t.partTime - s.pack.time).toNat s t ∧
  (t.session.phase = .suspended → p ≠ .suspended →
    t.session.reason =
      some
        (if s.link.state ≠ .linked then .linkLost else if condActive t .chargeTemp = true then .temp else .inhibited)) ∧
  (t.session.phase = .done → p ≠ .done →
    t.counter.q = t.counter.capacity * 1000 ∧ t.counter.residual = 0 ∧ t.counter.soc = 100 ∧
    t.counter.origin = .full) ∧
  t.session.balance =
    (if t.session.phase.balancing = true ∧ temp < 450 ∧ t.monitor.sweep = none then balanceSet t.pack else [])

/-! ## The settings of CONFIGURE_SENSING (R100, R113) -/

/-- The settings that a CONFIGURE_SENSING asks for, each brought into its range. -/
def storedSensingCfg (a r : Byte) (t1 t2 t3 : BitVec 16) (dr ch ck cw : Byte) (cv : BitVec 16) (fu : Byte) : SensingCfg :=
  { code := min 15 a.toNat
    rejectUs := if 8 ≤ r.toNat then 8 else if 4 ≤ r.toNat then 4 else if 2 ≤ r.toNat then 2 else 0
    t1 := max 1 (min 10000 (t1.toNat : Int))
    t2 := max 1 (min 10000 (t2.toNat : Int))
    t3 := max 1 (min 10000 (t3.toNat : Int))
    drainUs := if 10 ≤ dr.toNat then 10 else 2
    chargeUs := if 40 ≤ ch.toNat then 40 else 20
    clockMhz := if 24 ≤ ck.toNat then 24 else if 12 ≤ ck.toNat then 12 else if 6 ≤ ck.toNat then 6 else 4
    width := max 9 (min 16 cw.toNat)
    cover := max 20 (min 300 (cv.toNat : Int))
    full := max 3 (min 6 fu.toNat) }

/-! ## The full level (R109, R173) -/

/-- The reports of the test of level `c` against the full level `full` (R109): the raise or the end of `k`, if any. -/
def fullReportsOf (k : CondKind) (c full : Nat) (s t : State) : List Report :=
  if full ≤ c then (if condActive s k then [] else [raisedReportOf k (some (.number c)) s t])
  else (if condActive s k then [endedReportOf k s t] else [])

/-- BAG_FULL, raised in `t`'s event, ended the live cycle of `s` (R27, R173): a running fan makes the stop EVAC_BAG_FULL and
gives its share of the bus back, a coasting one loses its pending start, and the cycle is ABORTED. -/
def EndedByBag (s t : State) : Prop :=
  t.cycle =
    { s.cycle with
      state := .aborted, reason := some .bagFull, elapsed := cycleElapsed ({ s with now := t.now } : State), timer := none } ∧
  (s.drive.state.running = true →
    StopMade .evacBagFull s t ∧
    t.output =
      { s.output with
        pAllow := s.output.busLimit
        iApp := appliedCurrent s.output.iRequested s.output.iMax s.output.busLimit s.output.vLim
        status := outStatus t }) ∧
  (s.drive.state.running = false →
    t.drive =
      { s.drive with
        armed := false, pendingStart := false, trigOn := (s.driveCfg.mode == .hold) && s.drive.trigOn } ∧
    t.motor = s.motor ∧ t.output = s.output)

/-- The reports of that end, behind CONDITION_RAISED: the stop's two and EVACUATION ABORTED (R22, R135, R173, R197). -/
def bagReportsOf (s t : State) : List Report :=
  (if s.drive.state.running then stopReportsOf .evacBagFull s t else []) ++
    [{ kind := .evacuation
       sub := 2
       time := t.partTime
       data := [byteOf (cycleElapsed ({ s with now := t.now } : State)), 2] }]

/-- The settings as the reply carries them (R195). -/
def sensingCfgPayload (c : SensingCfg) : List Byte :=
  [byteOf c.code, byteOf c.rejectUs] ++ le2 c.t1 ++ le2 c.t2 ++ le2 c.t3 ++
    [byteOf c.drainUs, byteOf c.chargeUs, byteOf c.clockMhz, byteOf c.width] ++ le2 c.cover ++ [byteOf c.full]

/-- What a stored CONFIGURE_SENSING leaves of the scanner and the impact counter (R100, R104). -/
def SensingStored (c : SensingCfg) (s t : State) : Prop :=
  t.sensingCfg = c ∧
  t.fill =
    { s.fill with
      scan :=
        if c.drainUs = s.sensingCfg.drainUs ∧ c.chargeUs = s.sensingCfg.chargeUs ∧ c.clockMhz = s.sensingCfg.clockMhz ∧
            c.width = s.sensingCfg.width then
          s.fill.scan
        else none } ∧
  t.dirt =
    (if c.t1 = s.sensingCfg.t1 ∧ c.t2 = s.sensingCfg.t2 ∧ c.t3 = s.sensingCfg.t3 then s.dirt
     else { s.dirt with rise := 0, fall := 0 })

/-! ## The automatic evacuation (R152) -/

/-- The test of an automatic start at a scan completion that leaves the record and the list as in `t`. -/
abbrev StartsItself (s t : State) : Prop :=
  s.role = .handle ∧ s.link.evac = .none ∧ s.dockCfg.autoEvacuate = true ∧ condActive t .binFull = true ∧
  s.link.docked = true ∧ 10000 ≤ (t.partTime - s.link.dockedTime).toNat ∧ s.link.state = .linked ∧
  s.link.identity.fitted = true ∧ condOf t .evacuationIneffective = none ∧
  (∀ x ∈ s.link.lastEvacEnd, 60000 ≤ (t.partTime - x).toNat)

/-! ## Charge phases (R74) -/

/-- The current request that a phase takes on entry (R74 step 3). -/
def entryCurrent (p : Phase) (s : State) : Int :=
  if p = .precharge then 250
  else if p = .constCurrent then s.chargeCfg.iCc
  else if p = .constVoltage then s.session.request
  else if p = .topBalance then 100
  else 0

/-- The session moved to phase `p` with `reason` (R74, R81, R82, R85 to R87, R90): the entry time and request, the switch,
and the timers that start or stop. The balance set is empty after a move out of a phase that balances, and may have been
emptied by the start of a sweep. -/
def PhaseMoved (p : Phase) (reason : Option PhaseReason) (s t : State) : Prop :=
  t.session =
    { s.session with
      phase := p
      reason := reason
      phaseEntry := t.partTime
      request := entryCurrent p s
      switchClosed := p.charging
      balance := t.session.balance
      precharge := if p = .precharge then some (t.now + 1800000000000) else none
      topBalance := if p = .topBalance then some (t.now + 7200000000000) else none
      limit :=
        if p = .constCurrent then some (s.session.limit.getD (t.now + 18000000000000))
        else if p = .done ∨ p = .failed ∨ p = .none then none
        else s.session.limit
      termination := 0
      dockTimer := if p.charging then s.session.dockTimer else none } ∧
  (t.session.balance = s.session.balance ∨ t.session.balance = []) ∧
  (s.session.phase.balancing = true → p ≠ s.session.phase → t.session.balance = [])

/-- The CHARGE_PHASE report of the phase in which `t` stands (R74, R197). -/
def phaseReportOf (t : State) : Report :=
  { kind := .chargePhase
    sub := t.session.phase.code + 16 * phaseReasonReport t.session.reason
    time := t.partTime
    data := le2 t.session.request ++ le2 t.pack.vmin ++ le2 t.pack.vmax }

/-! ## Failures of exchanges (R147, R148) -/

/-- The event `c` fails the exchange `e` in flight with outcome `f` at time `n` (R147): the idle line's limit, contention
while the request is sent, no start bit in time, a gap in the response, or a response that is no valid answer. -/
def FailsBy (c : Instr) (e : Exchange) (s : State) (f : LinkFailure) (n : Nat) : Prop :=
  match c with
  | .linkIdleTimeout => e.sentAt = none ∧ f = .timeout ∧ n = max s.now e.idleLimit
  | .linkContention =>
    ∃ u ∈ e.sentAt, s.now < u ∧ f = .contention ∧ n = max s.now (u - e.frame.length * 1562500 / 3)
  | .responseTimeout => ∃ u ∈ e.sentAt, e.receiving = false ∧ f = .timeout ∧ n = max s.now (u + 20000000)
  | .linkFrameGapTimeout => e.receiving = true ∧ f = .badCheck ∧ n = s.now
  | .linkResponseInvalid bytes framingOk =>
    ∃ u ∈ e.sentAt,
      (e.receiving = true ∨ s.now ≤ u + 20000000) ∧
      (framingOk = false ∨ bytes.getD 1 0 ≠ e.kind.kind + 0x40 ∨ (bytes.drop 1).foldl (· ^^^ ·) 0 ≠ 0) ∧
      f = .badCheck ∧ n = max s.now u
  | _ => False

/-- The link after the third failure in a row, of the exchange `e` with outcome `f` (R148): FAULT, only EVAC_START and
EVAC_STOP kept pending, the failed kind among them (log entry 21), the polls stopped and the retry timer at 1,000 ms. -/
def LinkFailed (e : Exchange) (f : LinkFailure) (s t : State) : Prop :=
  t.link =
    { s.link with
      exchange := none
      lastOutcome := outcomeOf f
      failures := 3
      state := .fault
      pend :=
        { ident := false
          setpoint := false
          evacQuery := false
          evacStart := s.link.pend.evacStart || (e.kind == .evacStart)
          evacStop := s.link.pend.evacStop || (e.kind == .evacStop) }
      setpointPoll := none
      queryPoll := none
      backoff := none
      faultRetry := some (t.now + 1000000000) }

/-- The DOCK report with sub-code LINK and FAULT (R148, R197). -/
def linkFaultReportOf (t : State) : Report := { kind := .dock, sub := 2, time := t.partTime, data := [3] }

/-- The blocks that a change of phase can reach (R74): the session, its report, the requests it posts, the sweep period. -/
def phaseBlocks : List Block := [.session, .reports, .lost, .seq, .monitor, .power]

/-! ## The laws of the part -/

/-- The law of the drive (R24, R42), with the two timers that decide where PRIMING and COASTING end. -/
def DriveLaw (s : State) : Prop :=
  (s.drive.state.switching = true → 40 ≤ s.drive.duty ∧ s.drive.duty ≤ 980) ∧
  (s.drive.state.switching = false → s.drive.duty = 0) ∧
  (s.drive.state.running = true → driveInhibited s = false) ∧
  (s.motor.settle.isSome = true → s.drive.state = .priming) ∧
  (s.motor.coast.isSome = true → s.drive.state = .coasting)

/-- The law of the charge output in dock role (R163, R167). -/
def OutputLaw (s : State) : Prop :=
  s.role = .dock →
    (0 ≤ s.output.duty ∧ s.output.duty ≤ 950) ∧
    (0 < s.output.duty → s.output.permission = true) ∧
    (s.output.permission = true →
      s.responder.present = true ∧ s.responder.keepAlive.isSome = true ∧ outputInhibited s = false) ∧
    (s.output.period.isSome = s.output.permission)

/-- The law of the dock's budget (R165): the fan ceiling plus the allowance is the bus power limit, and the allowance is
not negative. -/
def BudgetLaw (s : State) : Prop :=
  s.role = .dock →
    fanCeiling s + s.output.pAllow = s.output.busLimit ∧ 0 ≤ s.output.pAllow ∧
    (100 ≤ s.output.busLimit ∧ s.output.busLimit ≤ 600) ∧
    (s.motor.settle.isSome = true → s.drive.state = .priming) ∧
    (s.motor.coast.isSome = true → s.drive.state = .coasting)

/-- The law of the charge switch (R90, R78): closed exactly in the charging phases, in which no charge-inhibiting effect
holds. -/
def ChargeLaw (s : State) : Prop :=
  s.session.switchClosed = s.session.phase.charging ∧
  (s.role = .handle → s.session.phase.charging = true → chargeInhibited s = false)

/-- The law of the balance set (R92). -/
def BalanceLaw (s : State) : Prop :=
  s.session.balance.length ≤ 3 ∧ s.session.balance.Nodup ∧
  (s.session.balance ≠ [] →
    s.monitor.sweep = none ∧ s.pack.packT < 450 ∧ s.session.phase.balancing = true ∧ s.power.state ≠ .standby)

/-- The law of the dirt ring (R99), with the open window that feeds it. -/
def DirtLaw (s : State) : Prop :=
  s.dirt.ring.length ≤ 20 ∧ s.dirt.grade ≤ 3 ∧
  (s.drive.state ≠ .regulate → s.dirt.ring = [] ∧ s.dirt.grade = 0 ∧ s.dirt.window = none) ∧
  (s.motor.settle.isSome = true → s.drive.state = .priming) ∧
  (s.motor.coast.isSome = true → s.drive.state = .coasting)

/-- The law of the conversion queue (R121). -/
def ConversionQueueLaw (s : State) : Prop := s.seq.queue.length ≤ 12 ∧ (s.seq.queue.map (·.chan)).Nodup

/-- The law of the condition list (R130). -/
def ConditionListLaw (s : State) : Prop :=
  (s.conds.map (·.kind)).Nodup ∧ ∀ r ∈ s.conds, 1 ≤ r.occurrences ∧ r.occurrences ≤ 255

/-- The laws of the report queue (R182) and of the receive buffer (R177). -/
def QueueLaw (s : State) : Prop := s.reports.length ≤ 16 ∧ s.port.buffer.length ≤ 2

/-- The law of the charge counter (R62, R63). -/
def CounterLaw (s : State) : Prop :=
  (1000 ≤ s.counter.capacity ∧ s.counter.capacity ≤ 6000) ∧
  (0 ≤ s.counter.q ∧ s.counter.q ≤ s.counter.capacity * 1000) ∧
  (-3599 ≤ s.counter.residual ∧ s.counter.residual ≤ 3599)

/-- The law of the full level (R109): BIN_FULL, in dock role BAG_FULL, is ACTIVE exactly while the debounced level has
reached the full level. -/
def FullLaw (s : State) : Prop := condActive s (fullKind s.role) = decide (s.sensingCfg.full ≤ s.fill.debounced)

/-- Every step keeps a law. -/
def Kept (law : State → Prop) : Prop := ∀ s t : State, law s → step s = .next t → law t

end Sys2Proof.Machine
end

