-- ==== Sys2Proof/Certificates/Slice0/Obligations.lean ====
section
/-! DEFINITION. The statements about the part for the provers. Each docstring names the rules it formalises; the terms
they use stand in Safety.lean. -/

open Sys2Proof Sys2Proof.Machine

/-- The noise rejector and the trigger modes (R3, R4), with the LATCH press that toggles trigger-on. An open candidate
completes under the width it started with, so a level off the trigger level changes the pins alone while one is open. -/
def Obligations.TriggerQualification : Prop :=
  (∀ (s : State) (p : Bool),
    (s.up = false ∨ s.role = .dock) → s.power.waiting = [] →
    Completes (.triggerPinChange p) s (fun t =>
      t.pins = { s.pins with trig := p } ∧
      ChangesOnly [.pins] s t)) ∧
  (∀ (s : State),
    s.up = true → s.role = .handle → s.power.waiting = [] →
    Completes (.triggerPinChange s.drive.trigPressed) s (fun t =>
      t.pins = { s.pins with trig := s.drive.trigPressed } ∧
      t.motor = { s.motor with candidate := none } ∧
      ChangesOnly [.pins, .motor] s t)) ∧
  (∀ (s : State),
    s.up = true → s.role = .handle → s.power.waiting = [] → s.driveCfg.rejectMs ≠ 0 →
    Completes (.triggerPinChange (!s.drive.trigPressed)) s (fun t =>
      t.pins = { s.pins with trig := !s.drive.trigPressed } ∧
      t.motor = { s.motor with candidate := some (s.motor.candidate.getD (s.now + s.driveCfg.rejectMs * 1000000)) } ∧
      ChangesOnly [.pins, .motor] s t)) ∧
  (∀ (s : State) (d : Nat),
    s.motor.candidate = some d →
    s.up = true → s.power.waiting = [] → s.pins.trig = false → s.driveCfg.mode = .hold →
    s.drive.state.running = false →
    Completes (.triggerQualified) s (fun t =>
      t.now = s.atDeadline d ∧
      t.motor = { s.motor with candidate := none } ∧
      t.drive = { s.drive with trigPressed := false, trigOn := false } ∧
      ChangesOnly [.now, .motor, .drive] s t)) ∧
  (∀ (s : State) (d : Nat),
    s.motor.candidate = some d →
    s.up = true → s.power.waiting = [] → s.pins.trig = false → s.driveCfg.mode = .latch →
    Completes (.triggerQualified) s (fun t =>
      t.now = s.atDeadline d ∧
      t.motor = { s.motor with candidate := none } ∧
      t.drive = { s.drive with trigPressed := false } ∧
      ChangesOnly [.now, .motor, .drive] s t)) ∧
  (∀ (s : State) (d : Nat),
    s.motor.candidate = some d →
    s.up = true → s.power.waiting = [] → s.power.state = .active → s.power.standbyPending = false →
    s.pins.trig = true → s.driveCfg.mode = .hold → s.drive.armed = false →
    Completes (.triggerQualified) s (fun t =>
      t.now = s.atDeadline d ∧
      t.motor = { s.motor with candidate := none } ∧
      t.drive = { s.drive with trigPressed := true, trigOn := true } ∧
      ChangesOnly [.now, .motor, .drive] s t)) ∧
  (∀ (s : State),
    s.role = .handle → s.power.state = .active → s.power.waiting = [] → s.power.standbyPending = false →
    s.motor.candidate = none → s.driveCfg.rejectMs = 0 → s.drive.trigPressed = false → s.driveCfg.mode = .hold →
    s.drive.armed = false →
    Completes (.triggerPinChange true) s (fun t =>
      t.pins = { s.pins with trig := true } ∧
      t.drive = { s.drive with trigPressed := true, trigOn := true } ∧
      ChangesOnly [.pins, .drive] s t)) ∧
  (∀ (s : State) (d : Nat),
    s.motor.candidate = some d →
    s.up = true → s.role = .handle → s.power.waiting = [] →
    Completes (.triggerPinChange (!s.drive.trigPressed)) s (fun t =>
      t.pins = { s.pins with trig := !s.drive.trigPressed } ∧
      ChangesOnly [.pins] s t)) ∧
  (∀ (s : State) (d : Nat),
    s.motor.candidate = some d →
    s.up = true → s.power.waiting = [] → s.power.state = .active → s.power.standbyPending = false →
    s.pins.trig = true → s.driveCfg.mode = .latch → s.drive.trigOn = false → s.drive.armed = false →
    Completes (.triggerQualified) s (fun t =>
      t.now = s.atDeadline d ∧
      t.motor = { s.motor with candidate := none } ∧
      t.drive = { s.drive with trigPressed := true, trigOn := true } ∧
      ChangesOnly [.now, .motor, .drive] s t)) ∧
  (∀ (s : State) (d : Nat),
    s.motor.candidate = some d →
    s.up = true → s.power.waiting = [] → s.power.state = .active → s.power.standbyPending = false →
    s.pins.trig = true → s.driveCfg.mode = .latch → s.drive.trigOn = true → s.drive.state.running = false →
    Completes (.triggerQualified) s (fun t =>
      t.now = s.atDeadline d ∧
      t.motor = { s.motor with candidate := none } ∧
      t.drive = { s.drive with trigPressed := true, trigOn := false } ∧
      ChangesOnly [.now, .motor, .drive] s t)) ∧
  (∀ (s : State) (d : Nat),
    s.motor.candidate = some d →
    s.up = true → s.power.waiting = [] → s.power.state = .active → s.power.standbyPending = false →
    s.pins.trig = true → s.driveCfg.mode = .latch → s.drive.trigOn = false → s.drive.armed = true →
    s.drive.state = .stopped → driveInhibited s = true → ReportsFit s →
    Completes (.triggerQualified) s (fun t =>
      t.now = s.atDeadline d ∧
      t.motor = { s.motor with candidate := none } ∧
      t.drive = { s.drive with trigPressed := true, trigOn := false } ∧
      Queued s t (blockedReportsOf s t) ∧
      ChangesOnly [.now, .motor, .drive, .reports, .lost] s t))

/-- Starts from the trigger, in both trigger modes, and from RUN (R4, R5, R7, R8). -/
def Obligations.DriveStarts : Prop :=
  (∀ (s : State) (d : Nat),
    s.motor.candidate = some d →
    s.role = .handle → s.power.state = .active → s.power.standbyPending = false → s.power.waiting = [] →
    s.pins.trig = true → s.driveCfg.mode = .hold → s.drive.armed = true → s.drive.state = .stopped →
    driveInhibited s = false → s.port.silent = false → NoPortAlone s → ReportsFit s →
    Completes (.triggerQualified) s (fun t =>
      Started s t ∧
      CeilingLeast t ∧
      Queued s t [startReportOf t] ∧
      t.now = s.atDeadline d ∧
      t.drive.trigPressed = true ∧ t.drive.trigOn = true ∧ t.drive.armed = true ∧ t.drive.mode = s.drive.mode ∧
      ChangesOnly [.now, .power, .motor, .drive, .dirt, .seq, .session, .monitor, .fill, .output, .reports, .lost] s
        t)) ∧
  (∀ (s : State) (d : Nat),
    s.motor.candidate = some d →
    s.role = .handle → s.power.state = .active → s.power.standbyPending = false → s.power.waiting = [] →
    s.pins.trig = true → s.driveCfg.mode = .hold → s.drive.armed = true → s.drive.state = .stopped →
    driveInhibited s = true → ReportsFit s →
    Completes (.triggerQualified) s (fun t =>
      t.now = s.atDeadline d ∧
      t.motor = { s.motor with candidate := none } ∧
      t.drive = { s.drive with trigPressed := true, trigOn := true } ∧
      Queued s t (blockedReportsOf s t) ∧
      ChangesOnly [.now, .motor, .drive, .reports, .lost] s t)) ∧
  (∀ (s : State) (d : Nat),
    s.motor.candidate = some d →
    s.role = .handle → s.power.state = .active → s.power.standbyPending = false → s.power.waiting = [] →
    s.pins.trig = true → s.driveCfg.mode = .hold → s.drive.armed = true → s.drive.state = .coasting →
    Completes (.triggerQualified) s (fun t =>
      t.now = s.atDeadline d ∧
      t.motor = { s.motor with candidate := none } ∧
      t.drive = { s.drive with trigPressed := true, trigOn := true, pendingStart := true } ∧
      ChangesOnly [.now, .motor, .drive] s t)) ∧
  (∀ (s : State) (tag mode level : Byte),
    Listening s → s.role = .handle → (mode = 0 ∨ mode = 1) → s.link.docked = false →
    driveInhibited (received s) = false → s.drive.state = .stopped → s.drive.trigOn = true → NoPortAlone s →
    ReportsFit s →
    Completes (.run tag mode level) s (fun t =>
      Replied (received s) t 0x10 tag (if level.toNat < 1 ∨ (if mode = 0 then 4 else 3) < level.toNat then .okClamped
        else .ok) [] ∧
      Started (received s) t ∧
      CeilingLeast t ∧
      Queued (received s) t [startReportOf t] ∧
      t.drive.mode = (if mode = 0 then .manual (max 1 (min 4 level.toNat)) else .auto (max 1 (min 3 level.toNat))) ∧
      t.drive.armed = true ∧ t.drive.trigOn = true ∧ t.drive.trigPressed = s.drive.trigPressed ∧
      ChangesOnly [.port, .free, .now, .power, .motor, .drive, .dirt, .seq, .session, .monitor, .fill, .output,
        .reports, .lost] (received s) t)) ∧
  (∀ (s : State) (d : Nat),
    s.motor.candidate = some d →
    s.role = .handle → s.power.state = .active → s.power.standbyPending = false → s.power.waiting = [] →
    s.pins.trig = true → s.driveCfg.mode = .latch → s.drive.trigOn = false → s.drive.armed = true →
    s.drive.state = .stopped → driveInhibited s = false → s.port.silent = false → NoPortAlone s → ReportsFit s →
    Completes (.triggerQualified) s (fun t =>
      Started s t ∧
      CeilingLeast t ∧
      Queued s t [startReportOf t] ∧
      t.now = s.atDeadline d ∧
      t.drive.trigPressed = true ∧ t.drive.trigOn = true ∧ t.drive.armed = true ∧ t.drive.mode = s.drive.mode ∧
      ChangesOnly [.now, .power, .motor, .drive, .dirt, .seq, .session, .monitor, .fill, .output, .reports, .lost] s
        t)) ∧
  (∀ (s : State) (d : Nat),
    s.motor.candidate = some d →
    s.role = .handle → s.power.state = .active → s.power.standbyPending = false → s.power.waiting = [] →
    s.pins.trig = true → s.driveCfg.mode = .latch → s.drive.trigOn = false → s.drive.armed = true →
    s.drive.state = .coasting →
    Completes (.triggerQualified) s (fun t =>
      t.now = s.atDeadline d ∧
      t.motor = { s.motor with candidate := none } ∧
      t.drive = { s.drive with trigPressed := true, trigOn := true, pendingStart := true } ∧
      ChangesOnly [.now, .motor, .drive] s t))

/-- The settle expiry (R9) and the order of its reports (R24). The Hall code it reads comes with the command, and the pins
take it without a Hall edge: the model's choice (log entry 41). -/
def Obligations.PumpSettleDecides : Prop :=
  (∀ (s : State) (hall : BitVec 3) (d : Nat),
    s.motor.settle = some d →
    hallValid hall = true →
    Completes (.pumpSettleExpiry true hall) s (fun t =>
      t.now = s.atDeadline d ∧
      t.pins = { s.pins with hall := hall } ∧
      t.drive = { s.drive with state := .spinUp, duty := 40, nEff := 0 } ∧
      t.motor = { s.motor with
        settle := none, period := some (d + 2000000), spinUp := some (d + 500000000), bridge := bridgeOfCode hall,
        pwmDuty := 40, pwmThreshold := s.driveCfg.threshold, pwmNext := some (d + 25000), tripped := false } ∧
      ChangesOnly [.now, .pins, .drive, .motor] s t)) ∧
  (∀ (s : State) (hall : BitVec 3) (d : Nat),
    s.motor.settle = some d →
    s.role = .handle → s.power.standbyPending = false → ReportsFit s → condActive s .gateSupplyFault = false →
    Completes (.pumpSettleExpiry false hall) s (fun t =>
      t.now = s.atDeadline d ∧
      FaultStop .pumpFault .gateSupplyFault none { s with pins := { s.pins with hall := hall } } t)) ∧
  (∀ (s : State) (hall : BitVec 3) (d : Nat),
    s.motor.settle = some d →
    s.role = .handle → s.power.standbyPending = false → ReportsFit s → condActive s .hallFault = false →
    hallValid hall = false →
    Completes (.pumpSettleExpiry true hall) s (fun t =>
      t.now = s.atDeadline d ∧
      FaultStop .hallFault .hallFault (some (.number hall.toNat)) { s with pins := { s.pins with hall := hall } } t))

/-- The stops of the drive's own faults (R12, R13, R18 to R20, R24, R44). The limit commands act where the count stands one
short of its limit, which is the model's choice (log entry 7), and a stale period is counted at its end (log entry 9). -/
def Obligations.LimitsStopTheDrive : Prop :=
  (∀ (s : State) (d : Nat),
    s.motor.spinUp = some d →
    s.role = .handle → s.power.standbyPending = false → ReportsFit s → s.drive.state.switching = true →
    condActive s .motorStall = false →
    Completes (.spinUpTimeout) s (fun t =>
      t.now = s.atDeadline d ∧
      FaultStop .stall .motorStall (some (.number s.drive.nMeas)) s t)) ∧
  (∀ (s : State),
    s.role = .handle → s.power.standbyPending = false → ReportsFit s → s.drive.state = .regulate →
    s.drive.nMeas < 5000 → 49 ≤ s.drive.lowSpeed → condActive s .motorStall = false →
    Completes (.lowSpeedLimit) s (fun t =>
      t.now = s.now ∧
      FaultStop .stall .motorStall (some (.number s.drive.nMeas)) s t)) ∧
  (∀ (s : State),
    s.role = .handle → s.power.standbyPending = false → ReportsFit s → s.drive.state.switching = true →
    s.motor.tripped = false → 15 ≤ s.drive.overcurrent → condActive s .driveOvercurrent = false →
    Completes (.overcurrentLimit) s (fun t =>
      t.now = s.now ∧
      FaultStop .overcurrent .driveOvercurrent (some (.number s.motor.pwmThreshold)) s t)) ∧
  (∀ (s : State),
    s.motor.tripped = true →
    Completes (.overcurrentLimit) s (fun t => t = s)) ∧
  (∀ (s : State),
    s.role = .handle → s.power.standbyPending = false → ReportsFit s → s.drive.state.switching = true →
    s.motor.tripped = false → 15 ≤ s.drive.overcurrent → condActive s .driveOvercurrent = false →
    Completes (.overcurrentTrip) s (fun t =>
      t.now = s.now ∧
      FaultStop .overcurrent .driveOvercurrent (some (.number s.motor.pwmThreshold)) s t)) ∧
  (∀ (s : State),
    s.role = .handle → s.power.standbyPending = false → ReportsFit s → s.drive.state.switching = true →
    condActive s .gateSupplyFault = false →
    Completes (.pumpNotGood) s (fun t =>
      t.now = s.now ∧
      FaultStop .pumpFault .gateSupplyFault (none) s t)) ∧
  (∀ (s : State),
    s.role = .handle → s.power.standbyPending = false → ReportsFit s → s.drive.state.switching = true →
    s.drive.pCeil < 30 → 49 ≤ s.drive.derated → s.pack.valid = true → s.drive.limit = .cell →
    condActive s .packExhausted = false →
    Completes (.deratedOutLimit) s (fun t =>
      t.now = s.now ∧
      FaultStop .deratedOut .packExhausted (some (.number s.pack.vmin)) s t)) ∧
  (∀ (s : State),
    s.role = .handle → ReportsFit s → s.drive.state.switching = true → s.drive.pCeil < 30 → 49 ≤ s.drive.derated →
    s.pack.valid = true → s.drive.limit ≠ .cell →
    Completes (.deratedOutLimit) s (fun t =>
      t.now = s.now ∧
      StopOnly .deratedOut s t)) ∧
  (∀ (s : State),
    s.role = .handle → ReportsFit s → s.drive.state.switching = true → driveFresh s = false → 24 ≤ s.drive.stale →
    Completes (.staleLimit) s (fun t =>
      t.now = s.now ∧
      StopOnly .measureStale s t))

/-- Commutation and speed measurement (R14, R15), and the end of HALL_FAULT (R133). That an edge with the fast clock off
changes only the pins is log entry 17, that an edge whose code is the present one is a skipped edge is log entry 32, and
that the 8 MHz count is read off the part's time, with the edge at a count given by the command, is log entry 38: all
three the model's. -/
def Obligations.HallEdgesCommutateAndMeasure : Prop :=
  (bridgeOfCode 0b101 = some ⟨.a, .b, .c⟩ ∧ bridgeOfCode 0b100 = some ⟨.a, .c, .b⟩ ∧ bridgeOfCode 0b110 = some ⟨.b, .c, .a⟩ ∧
    bridgeOfCode 0b010 = some ⟨.b, .a, .c⟩ ∧ bridgeOfCode 0b011 = some ⟨.c, .a, .b⟩ ∧ bridgeOfCode 0b001 = some ⟨.c, .b, .a⟩ ∧
    bridgeOfCode 0b000 = none ∧ bridgeOfCode 0b111 = none) ∧
  (∀ (s : State) (code counts : BitVec 3),
    s.fastUp = false →
    Completes (.hallEdge code counts) s (fun t =>
      t.pins = { s.pins with hall := code } ∧
      ChangesOnly [.pins] s t)) ∧
  (∀ (s : State) (code counts : BitVec 3),
    s.fastUp = true → hallValid code = true → s.motor.refStamp = none →
    (s.drive.state ≠ .stopped ∨ condActive s .hallFault = false) →
    Completes (.hallEdge code counts) s (fun t =>
      t.now = s.edgeMoment counts ∧
      t.pins = { s.pins with hall := code } ∧
      t.motor = { s.motor with
        edge := some (s.edgeMoment counts + 20000000),
        bridge := (if s.drive.state.switching then bridgeOfCode code else s.motor.bridge),
        refStamp := some (s.edgeCount counts) } ∧
      ChangesOnly [.now, .pins, .motor] s t)) ∧
  (∀ (s : State) (code counts : BitVec 3) (r : BitVec 32),
    s.motor.refStamp = some r →
    s.fastUp = true → hallValid code = true → normalEdge s.pins.hall code = false →
    (s.drive.state ≠ .stopped ∨ condActive s .hallFault = false) →
    Completes (.hallEdge code counts) s (fun t =>
      t.now = s.edgeMoment counts ∧
      t.pins = { s.pins with hall := code } ∧
      t.motor = { s.motor with
        edge := some (s.edgeMoment counts + 20000000),
        bridge := (if s.drive.state.switching then bridgeOfCode code else s.motor.bridge),
        refStamp := some (s.edgeCount counts) } ∧
      ChangesOnly [.now, .pins, .motor] s t)) ∧
  (∀ (s : State) (code counts : BitVec 3) (r : BitVec 32),
    let ring := (s.motor.ring ++ [(s.edgeCount counts - r).toNat]).drop (s.motor.ring.length - 5)
    let turn := if ring.length = 6 then ring.sum else ring.sum * 6 / ring.length
    s.motor.refStamp = some r →
    s.fastUp = true → hallStep s.pins.hall ≠ none → hallStep code = (hallStep s.pins.hall).map (fun n => n + 1) →
    s.motor.ring.length ≤ 6 → 0 < turn → (s.drive.state ≠ .stopped ∨ condActive s .hallFault = false) →
    ReportsFit s →
    Completes (.hallEdge code counts) s (fun t =>
      t.now = s.edgeMoment counts ∧
      t.pins = { s.pins with hall := code } ∧
      t.motor = { s.motor with
        edge := some (s.edgeMoment counts + 20000000),
        bridge := (if s.drive.state.switching then bridgeOfCode code else s.motor.bridge),
        refStamp := some (s.edgeCount counts),
        ring := ring, spinUp := if 10000 ≤ 480000000 / turn then none else s.motor.spinUp } ∧
      t.drive = { s.drive with nMeas := (480000000 / turn : Nat) } ∧
      Published .nMeas (480000000 / turn : Nat) s t ∧
      ChangesOnly [.now, .pins, .motor, .drive, .watches, .reports, .lost] s t)) ∧
  (∀ (s : State) (code counts : BitVec 3),
    s.fastUp = true → s.role = .handle → s.power.standbyPending = false → ReportsFit s →
    s.drive.state.switching = true → hallValid code = false → condActive s .hallFault = false →
    Completes (.hallEdge code counts) s (fun t =>
      t.now = s.edgeMoment counts ∧
      FaultStop .hallFault .hallFault (some (.number code.toNat)) { s with
        pins := { s.pins with hall := code },
        motor := { s.motor with edge := some (s.edgeMoment counts + 20000000), refStamp := none } } t)) ∧
  (∀ (s : State) (code counts : BitVec 3),
    s.fastUp = true → Calm s → ReportsFit s → hallValid code = false → condActive s .hallFault = false →
    Completes (.hallEdge code counts) s (fun t =>
      t.now = s.edgeMoment counts ∧
      t.pins = { s.pins with hall := code } ∧
      t.motor = { s.motor with edge := some (s.edgeMoment counts + 20000000), refStamp := none } ∧
      RaisedCalmly .hallFault (some (.number code.toNat)) s t ∧
      ChangesOnly [.now, .pins, .motor, .drive, .conds, .reports, .lost] s t)) ∧
  (∀ (s : State) (code counts : BitVec 3),
    s.fastUp = true → s.role = .handle → s.power.standbyPending = false → ReportsFit s → s.drive.state = .priming →
    hallValid code = false → condActive s .hallFault = false →
    Completes (.hallEdge code counts) s (fun t =>
      t.now = s.edgeMoment counts ∧
      t.pins = { s.pins with hall := code } ∧
      Raised .hallFault (some (.number code.toNat)) s t ∧
      StopMade .inhibited { s with motor := { s.motor with edge := some (s.edgeMoment counts + 20000000), refStamp := none } } t ∧
      Queued s t (raisedReportOf .hallFault (some (.number code.toNat)) s t :: stopReportsOf .inhibited s t) ∧
      ChangesOnly [.now, .pins, .motor, .drive, .dirt, .conds, .reports, .lost] s t)) ∧
  (∀ (s : State) (code counts : BitVec 3),
    s.fastUp = true → s.role = .handle → hallValid code = true → s.motor.refStamp = none →
    s.drive.state = .stopped → condActive s .hallFault = true → ReportsFit s →
    Completes (.hallEdge code counts) s (fun t =>
      t.now = s.edgeMoment counts ∧
      t.pins = { s.pins with hall := code } ∧
      t.motor = { s.motor with edge := some (s.edgeMoment counts + 20000000), refStamp := some (s.edgeCount counts) } ∧
      Ended .hallFault s t ∧
      Queued s t [endedReportOf .hallFault s t] ∧
      ChangesOnly [.now, .pins, .motor, .conds, .reports, .lost] s t))

/-- The edge timeout (R16), with the fast clock running (log entry 17), and the edges of the 8 MHz count (log entry 38). -/
def Obligations.EdgeTimeoutEndsTheMeasurement : Prop :=
  (turnTime [160000] = 960000 ∧ speedOfRing [160000] = 500) ∧
  (∀ (s : State) (code counts : BitVec 3),
    s.fastUp = true →
    Completes (.hallEdge code counts) s (fun t =>
      t.now = s.edgeMoment counts ∧
      t.motor.edge = some (s.edgeMoment counts + 20000000))) ∧
  (∀ (s : State) (d : Nat),
    s.motor.edge = some d →
    s.fastUp = true → ReportsFit s →
    Completes (.edgeTimeout) s (fun t =>
      t.now = s.atDeadline d ∧
      t.drive = { s.drive with nMeas := 0 } ∧
      t.motor = { s.motor with ring := [], refStamp := none, edge := none } ∧
      Published .nMeas 0 s t ∧
      ChangesOnly [.now, .drive, .motor, .watches, .reports, .lost] s t)) ∧
  (∀ (s : State) (code counts : BitVec 3),
    s.fastUp = true → hallValid code = true → s.motor.refStamp = none →
    Completes (.hallEdge code counts) s (fun t =>
      t.now = s.edgeMoment counts ∧
      t.motor.refStamp = some (s.edgeCount counts) ∧ t.motor.ring = s.motor.ring ∧ t.drive.nMeas = s.drive.nMeas)) ∧
  (∀ (s : State) (code counts : BitVec 3) (r : BitVec 32),
    s.motor.refStamp = some r →
    s.fastUp = true → hallValid code = true → normalEdge s.pins.hall code = true → s.motor.ring = [] →
    Completes (.hallEdge code counts) s (fun t =>
      t.now = s.edgeMoment counts ∧
      t.motor.ring = [(s.edgeCount counts - r).toNat]))

/-- PWM periods and the overcurrent count (R17, R18). -/
def Obligations.PwmPeriodsAndTrips : Prop :=
  (∀ (s : State),
    s.drive.state.switching = true → s.motor.tripped = false → s.drive.overcurrent + 1 < 16 →
    Completes (.overcurrentTrip) s (fun t =>
      t.motor = { s.motor with tripped := true } ∧
      t.drive = { s.drive with overcurrent := s.drive.overcurrent + 1 } ∧
      ChangesOnly [.motor, .drive] s t)) ∧
  (∀ (s : State),
    (s.drive.state.switching = false ∨ s.motor.tripped = true) →
    Completes (.overcurrentTrip) s (fun t => t = s)) ∧
  (∀ (s : State) (d : Nat),
    s.motor.pwmNext = some d →
    s.drive.state.switching = true →
    Completes (.pwmPeriodStart) s (fun t =>
      t.now = s.atDeadline d ∧
      t.motor = { s.motor with
        tripped := false, pwmDuty := s.drive.duty, pwmThreshold := s.driveCfg.threshold, pwmNext := some (d + 25000) }
        ∧
      t.drive = { s.drive with overcurrent := if s.motor.tripped then s.drive.overcurrent else 0 } ∧
      ChangesOnly [.now, .motor, .drive] s t)) ∧
  (∀ (s : State) (d : Nat),
    s.motor.pwmNext = some d →
    s.drive.state.switching = false →
    Completes (.pwmPeriodStart) s (fun t =>
      t.now = s.atDeadline d ∧
      t.motor = { s.motor with pwmNext := none } ∧
      ChangesOnly [.now, .motor] s t))

/-- The end of the coast (R23, R133), with its reports in order (log entry 20), and the dock's pending start, which the
evacuation cycle's state decides (R27). A LATCH stick keeps trigger-on where the pending start is blocked (log entry 34). -/
def Obligations.CoastEndsAndDecidesThePendingStart : Prop :=
  (∀ (s : State) (d : Nat),
    s.motor.coast = some d →
    s.drive.state = .coasting → s.drive.pendingStart = false → (s.conds.map (·.kind)).Nodup →
    Completes (.coastTimerExpiry) s (fun t =>
      t.now = s.atDeadline d ∧
      t.drive = { s.drive with state := .stopped } ∧
      t.motor = { s.motor with period := none, coast := none } ∧
      condActive t .motorStall = false ∧ condActive t .driveOvercurrent = false ∧
      condActive t .gateSupplyFault = false ∧
      (hallValid s.pins.hall = true → condActive t .hallFault = false) ∧
      (ReportsFit s → NoPortAlone s → Queued s t (restedReportsOf s t)) ∧
      ChangesOnly [.now, .power, .motor, .drive, .conds, .seq, .session, .monitor, .fill, .output, .reports, .lost] s
        t)) ∧
  (∀ (s : State) (d : Nat),
    s.motor.period = some d →
    s.drive.state = .coasting → s.drive.pendingStart = false → (s.conds.map (·.kind)).Nodup → s.drive.nMeas = 0 →
    Completes (.controlPeriod) s (fun t =>
      t.now = s.atDeadline d ∧
      t.drive = { s.drive with state := .stopped } ∧
      t.motor = { s.motor with period := none, coast := none } ∧
      condActive t .motorStall = false ∧ condActive t .driveOvercurrent = false ∧
      condActive t .gateSupplyFault = false ∧
      (hallValid s.pins.hall = true → condActive t .hallFault = false) ∧
      (ReportsFit s → NoPortAlone s → Queued s t (restedReportsOf s t)) ∧
      ChangesOnly [.now, .power, .motor, .drive, .conds, .seq, .session, .monitor, .fill, .output, .reports, .lost] s
        t)) ∧
  (∀ (s : State) (d : Nat),
    s.motor.period = some d →
    s.drive.state = .coasting → s.drive.nMeas ≠ 0 →
    Completes (.controlPeriod) s (fun t =>
      t.now = s.atDeadline d ∧
      t.motor = { s.motor with period := some (d + 2000000) } ∧
      ChangesOnly [.now, .motor] s t)) ∧
  (∀ (s : State) (d : Nat),
    s.motor.coast = some d →
    s.drive.state = .coasting → s.drive.pendingStart = true → s.role = .handle → s.drive.armed = true →
    s.drive.trigOn = true → driveInhibited s = false → s.port.silent = false →
    Completes (.coastTimerExpiry) s (fun t =>
      t.now = s.atDeadline d ∧
      Started s t ∧
      CeilingLeast t ∧
      t.drive.mode = s.drive.mode ∧ t.drive.armed = true ∧ t.drive.trigOn = true ∧
      t.motor.coast = none ∧ t.motor.period = none ∧
      (ReportsFit s → NoPortAlone s → Queued s t [startReportOf t]) ∧
      ChangesOnly [.now, .power, .motor, .drive, .conds, .seq, .session, .monitor, .fill, .output, .reports, .lost,
        .dirt] s t)) ∧
  (∀ (s : State) (d : Nat),
    s.motor.coast = some d →
    s.drive.state = .coasting → s.drive.pendingStart = true → s.role = .handle → s.drive.armed = true →
    s.drive.trigOn = true → driveInhibited s = true → (s.conds.map (·.kind)).Nodup →
    Completes (.coastTimerExpiry) s (fun t =>
      t.now = s.atDeadline d ∧
      t.drive = { s.drive with state := .stopped, pendingStart := false } ∧
      t.motor = { s.motor with period := none, coast := none } ∧
      (ReportsFit s → NoPortAlone s → Queued s t (restedReportsOf s t ++ blockedReportsOf s t)) ∧
      ChangesOnly [.now, .power, .motor, .drive, .conds, .seq, .session, .monitor, .fill, .output, .reports, .lost] s
        t)) ∧
  (∀ (s : State) (d : Nat),
    s.motor.coast = some d →
    s.drive.state = .coasting → s.drive.pendingStart = true → s.role = .handle →
    (s.drive.armed = false ∨ s.drive.trigOn = false) →
    Completes (.coastTimerExpiry) s (fun t =>
      t.now = s.atDeadline d ∧
      t.drive = { s.drive with state := .stopped, pendingStart := false } ∧
      t.motor = { s.motor with period := none, coast := none } ∧
      (ReportsFit s → NoPortAlone s → Queued s t (restedReportsOf s t)) ∧
      ChangesOnly [.now, .power, .motor, .drive, .conds, .seq, .session, .monitor, .fill, .output, .reports, .lost] s
        t)) ∧
  (∀ (s : State) (d : Nat),
    s.motor.coast = some d →
    s.drive.state = .coasting → s.drive.pendingStart = true → s.role = .dock → s.cycle.state = .starting →
    driveInhibited s = false → s.port.silent = false →
    Completes (.coastTimerExpiry) s (fun t =>
      t.now = s.atDeadline d ∧
      Started s t ∧
      CeilingLeast t ∧
      t.drive.mode = s.drive.mode ∧ t.drive.armed = s.drive.armed ∧ t.drive.trigOn = s.drive.trigOn ∧
      t.motor.coast = none ∧ t.motor.period = none ∧
      t.output.pAllow = s.output.busLimit - t.drive.pCeil ∧
      (ReportsFit s → NoPortAlone s → Queued s t [startReportOf t]) ∧
      ChangesOnly [.now, .power, .motor, .drive, .conds, .seq, .session, .monitor, .fill, .output, .reports, .lost,
        .dirt] s t)) ∧
  (∀ (s : State) (d : Nat),
    s.motor.coast = some d →
    s.drive.state = .coasting → s.drive.pendingStart = true → s.role = .dock → s.cycle.state = .starting →
    driveInhibited s = true → (s.conds.map (·.kind)).Nodup →
    Completes (.coastTimerExpiry) s (fun t =>
      t.now = s.atDeadline d ∧
      t.drive = { s.drive with state := .stopped, pendingStart := false } ∧
      t.motor = { s.motor with period := none, coast := none } ∧
      t.cycle = { s.cycle with state := .aborted, reason := some .fanFault, timer := none } ∧
      (ReportsFit s → NoPortAlone s →
        Queued s t (restedReportsOf s t ++ blockedReportsOf s t ++ fanFaultReportsOf s t)) ∧
      ChangesOnly [.now, .power, .motor, .drive, .conds, .seq, .session, .monitor, .fill, .output, .cycle, .reports,
        .lost] s t)) ∧
  (∀ (s : State) (d : Nat),
    s.motor.coast = some d →
    s.drive.state = .coasting → s.drive.pendingStart = true → s.role = .dock → s.cycle.state ≠ .starting →
    Completes (.coastTimerExpiry) s (fun t =>
      t.now = s.atDeadline d ∧
      t.drive = { s.drive with state := .stopped, pendingStart := false } ∧
      t.motor = { s.motor with period := none, coast := none } ∧
      (ReportsFit s → NoPortAlone s → Queued s t (restedReportsOf s t)) ∧
      ChangesOnly [.now, .power, .motor, .drive, .conds, .seq, .session, .monitor, .fill, .output, .reports, .lost] s
        t))

/-- The control period (R33, R38 to R42), in the periods in which no count reaches its limit. A stale period is counted at
its end (log entry 9). -/
def Obligations.ControlPeriodRegulates : Prop :=
  (∀ (s : State) (d : Nat),
    let u := s.setNow (s.atDeadline d)
    let n := (levelUsed s).speed
    let step := fun t : State => if t.drive.pCeil <
      t.drive.pMeas then -(min 40 (max 1 ((t.drive.pMeas - t.drive.pCeil).tdiv 4))) else if t.drive.pCeil - 5 ≤
        t.drive.pMeas then min 0 (max (-20) ((t.drive.nEff - s.drive.nMeas).tdiv 250)) else max (-20)
          (min 20 ((t.drive.nEff - s.drive.nMeas).tdiv 250))
    s.motor.period = some d →
    s.drive.state.switching = true → s.drive.derated + 1 < 50 → s.drive.stale + 1 < 25 →
    (s.drive.state = .spinUp ∨ 5000 ≤ s.drive.nMeas ∨ s.drive.lowSpeed + 1 < 50) →
    (s.drive.suspect + 1 < 150 ∨ s.power.standbyPending = false) →
    Completes (.controlPeriod) s (fun t =>
      t.now = u.now ∧
      t.motor.period = some (d + 2000000) ∧
      t.drive.nTgt = n ∧
      t.drive.nEff = (if s.drive.nEff < n then min (s.drive.nEff + 400) n else max (s.drive.nEff - 400) n) ∧
      t.drive.terms = termsNow s ∧ CeilingLeast t ∧
      (driveFresh u = true → t.drive.pMeas = ((s.chan .packV).value * max (s.chan .packI).value 0).tdiv 1000000 ∧
        t.drive.stale = 0 ∧ t.drive.duty = max 40 (min 980 (s.drive.duty + step t))) ∧
      (driveFresh u = false → t.drive.pMeas = s.drive.pMeas ∧ t.drive.stale = s.drive.stale + 1 ∧ t.drive.duty =
        s.drive.duty) ∧
      t.drive.state =
        (if s.drive.state = .spinUp then (if t.drive.nEff = n then .regulate else .spinUp) else .regulate) ∧
      t.drive.nMeas = s.drive.nMeas ∧ t.drive.armed = s.drive.armed ∧ t.drive.trigOn = s.drive.trigOn ∧
      t.drive.mode = s.drive.mode ∧
      t.motor = { s.motor with period := some (d + 2000000) } ∧
      ChangesOnly [.now, .drive, .motor, .dirt, .seq, .output, .cycle, .conds, .power, .watches, .reports, .lost] s t))

/-- Clog detection's limits (R46, R47), where detection runs (R45). The two commands act with 149 periods counted, which is
the model's choice (log entry 7). -/
def Obligations.ClogLimitsRaiseAndEnd : Prop :=
  (∀ (s : State),
    let n := (levelUsed s)
    let r := min 1500 ((s.drive.nMeas * 1000).tdiv n.speed)
    let pExp := (n.pRef * (r * r * r)).tdiv 1000000000
    s.drive.state = .regulate → driveFresh s = true → s.drive.nEff = s.drive.nTgt → n.speed.tdiv 2 ≤ s.drive.nMeas →
    s.power.standbyPending = false → ReportsFit s → condActive s .clog = false → 149 ≤ s.drive.suspect →
    s.drive.pMeas * 1000 < pExp * n.clogRatio →
    Completes (.clogSuspectLimit) s (fun t =>
      Raised .clog (some (.clog s.drive.pMeas pExp)) s t ∧
      Queued s t [raisedReportOf .clog (some (.clog s.drive.pMeas pExp)) s t] ∧
      t.drive = { s.drive with suspect := 0, clear := 0 } ∧
      ChangesOnly [.drive, .conds, .reports, .lost] s t)) ∧
  (∀ (s : State),
    let n := (levelUsed s)
    let r := min 1500 ((s.drive.nMeas * 1000).tdiv n.speed)
    let pExp := (n.pRef * (r * r * r)).tdiv 1000000000
    s.drive.state = .regulate → driveFresh s = true → s.drive.nEff = s.drive.nTgt → n.speed.tdiv 2 ≤ s.drive.nMeas →
    ReportsFit s → condActive s .clog = true → 149 ≤ s.drive.clear →
    pExp * (n.clogRatio + 100) ≤ s.drive.pMeas * 1000 → 0 ≤ pExp →
    Completes (.clogClearLimit) s (fun t =>
      Ended .clog s t ∧
      Queued s t [endedReportOf .clog s t] ∧
      t.drive = { s.drive with suspect := 0, clear := 0 } ∧
      ChangesOnly [.drive, .conds, .reports, .lost, .output] s t)) ∧
  (∀ (s : State),
    (s.drive.state ≠ .regulate ∨ driveFresh s = false ∨ s.drive.nEff ≠ s.drive.nTgt ∨
      s.drive.nMeas < ((levelUsed s).speed).tdiv 2) →
    Completes (.clogSuspectLimit) s (fun t => t = s) ∧ Completes (.clogClearLimit) s (fun t => t = s))

/-- The drive's settings (R29, R186), with the change of trigger mode (R4). -/
def Obligations.DriveSettingsAreStored : Prop :=
  (∀ (s : State) (tag r m th : Byte) (p v f : BitVec 16),
    Listening s → 2 ≤ m.toNat ∧ m.toNat ≤ 254 →
    Completes (.configureDrive tag r m th p v f) s (fun t =>
      Answered s t 0x20 tag .invalid [] [])) ∧
  (∀ (s : State) (tag r m th : Byte) (p v f : BitVec 16),
    let cfg := storedDriveCfg s.driveCfg r m th p v f
    Listening s → (m.toNat ≤ 1 ∨ m = 0xFF) → (s.role = .dock ∨ cfg.mode = s.driveCfg.mode) →
    Completes (.configureDrive tag r m th p v f) s (fun t =>
      t.driveCfg = cfg ∧
      Answered s t 0x20 tag (if DriveFieldMoved s.driveCfg r m th p v f then .okClamped else .ok) (driveCfgPayload cfg)
        [.driveCfg])) ∧
  (∀ (s : State) (tag r m th : Byte) (p v f : BitVec 16),
    let cfg := storedDriveCfg s.driveCfg r m th p v f
    Listening s → s.role = .handle → m.toNat ≤ 1 → cfg.mode ≠ s.driveCfg.mode →
    (s.drive.state.running = false ∨ s.drive.trigOn = false ∨ s.drive.trigPressed = true) →
    Completes (.configureDrive tag r m th p v f) s (fun t =>
      t.driveCfg = cfg ∧
      t.drive = { s.drive with trigOn := s.drive.trigPressed } ∧
      Answered s t 0x20 tag (if DriveFieldMoved s.driveCfg r m th p v f then .okClamped else .ok) (driveCfgPayload cfg)
        [.driveCfg, .drive])) ∧
  (∀ (s : State) (tag r m th : Byte) (p v f : BitVec 16),
    let cfg := storedDriveCfg s.driveCfg r m th p v f
    Listening s → s.role = .handle → m.toNat ≤ 1 → cfg.mode ≠ s.driveCfg.mode → s.drive.state.running = true →
    s.drive.trigOn = true → s.drive.trigPressed = false → ReportsFit s →
    Completes (.configureDrive tag r m th p v f) s (fun t =>
      t.driveCfg = cfg ∧
      Replied (received s) t 0x20 tag (if DriveFieldMoved s.driveCfg r m th p v f then .okClamped else .ok)
        (driveCfgPayload cfg) ∧
      StopMade .triggerReleased { s with drive := { s.drive with trigOn := false } } t ∧
      Queued (received s) t (stopReportsOf .triggerReleased s t) ∧
      ChangesOnly [.port, .free, .driveCfg, .drive, .motor, .dirt, .reports, .lost] (received s) t)) ∧
  (∀ (s : State) (tag k : Byte) (n : BitVec 32) (p q c : BitVec 16),
    Listening s → (k.toNat < 1 ∨ 4 < k.toNat) →
    Completes (.setLevelEntry tag k n p q c) s (fun t =>
      Answered s t 0x21 tag .invalid [] [])) ∧
  (∀ (s : State) (tag k : Byte) (n : BitVec 32) (p q c : BitVec 16),
    let l :=
      ({
        speed := 100 * (max 20000 (min 125000 n.toInt)).tdiv 100, pLevel := max 20 (min 550 (p.toNat : Int)),
        pRef := max 10 (min 550 (q.toNat : Int)), clogRatio := max 300 (min 900 (c.toNat : Int)) } : Level)
    Listening s → 1 ≤ k.toNat ∧ k.toNat ≤ 4 →
    Completes (.setLevelEntry tag k n p q c) s (fun t =>
      levelRec t k.toNat = l ∧
      (∀ j : Nat, 1 ≤ j → j ≤ 4 → j ≠ k.toNat → levelRec t j = levelRec s j) ∧
      t.driveCfg = { s.driveCfg with levels := t.driveCfg.levels } ∧
      t.drive =
        (if s.drive.state.switching ∧ levelInUse s = k.toNat then { s.drive with suspect := 0, clear := 0 } else
          s.drive) ∧
      Answered s t 0x21 tag (if l.speed = n.toInt ∧ l.pLevel = (p.toNat : Int) ∧ l.pRef = (q.toNat : Int) ∧
        l.clogRatio = (c.toNat : Int) then .ok else .okClamped) (k :: (le4 l.speed ++ le2 l.pLevel ++ le2 l.pRef ++
        le2 l.clogRatio)) [.driveCfg, .drive]))

/-- RUN (R5) and the level it brings into use (R31). -/
def Obligations.RunIsTakenOrRefused : Prop :=
  (∀ (s : State) (tag mode level : Byte),
    Listening s → s.role = .handle → 2 ≤ mode.toNat →
    Completes (.run tag mode level) s (fun t =>
      Answered s t 0x10 tag .invalid [] [])) ∧
  (∀ (s : State) (tag mode level : Byte),
    Listening s → s.role = .handle → mode.toNat ≤ 1 → s.link.docked = true →
    Completes (.run tag mode level) s (fun t =>
      Answered s t 0x10 tag .refused [0, 0] [])) ∧
  (∀ (s : State) (tag mode level : Byte) (i : CondRec),
    firstInhibit (received s) = some i →
    Listening s → s.role = .handle → mode.toNat ≤ 1 → s.link.docked = false →
    Completes (.run tag mode level) s (fun t =>
      Answered s t 0x10 tag .refused [1, byteOf i.kind.code] [])) ∧
  (∀ (s : State) (tag mode level : Byte),
    Listening s → s.role = .handle → (mode = 0 ∨ mode = 1) → s.link.docked = false →
    driveInhibited (received s) = false → s.drive.state = .stopped → s.drive.trigOn = false →
    Completes (.run tag mode level) s (fun t =>
      Answered s t 0x10 tag (if level.toNat < 1 ∨ (if mode = 0 then 4 else 3) < level.toNat then .okClamped else .ok)
        [] [.drive] ∧
      t.drive = { s.drive with
        armed := true,
        mode := (if mode = 0 then .manual (max 1 (min 4 level.toNat)) else .auto (max 1 (min 3 level.toNat))) })) ∧
  (∀ (s : State) (tag mode level : Byte),
    Listening s → s.role = .handle → (mode = 0 ∨ mode = 1) → s.link.docked = false →
    driveInhibited (received s) = false → s.drive.state = .coasting →
    Completes (.run tag mode level) s (fun t =>
      Answered s t 0x10 tag (if level.toNat < 1 ∨ (if mode = 0 then 4 else 3) < level.toNat then .okClamped else .ok)
        [] [.drive] ∧
      t.drive = { s.drive with
        armed := true,
        mode := (if mode = 0 then .manual (max 1 (min 4 level.toNat)) else .auto (max 1 (min 3 level.toNat))),
        pendingStart := true })) ∧
  (∀ (s : State) (tag mode level : Byte),
    Listening s → s.role = .handle → (mode = 0 ∨ mode = 1) → s.link.docked = false →
    driveInhibited (received s) = false → s.drive.state.running = true → ReportsFit s →
    Completes (.run tag mode level) s (fun t =>
      Answered s t 0x10 tag (if level.toNat < 1 ∨ (if mode = 0 then 4 else 3) < level.toNat then .okClamped else .ok)
        [] [.drive, .reports, .lost] ∧
      t.drive = { s.drive with
        armed := true,
        mode := (if mode = 0 then .manual (max 1 (min 4 level.toNat)) else .auto (max 1 (min 3 level.toNat))),
        nTgt := (levelUsed t).speed, levelSeen := levelInUse t,
        suspect := if (levelUsed t).speed = s.drive.nTgt then s.drive.suspect else 0,
        clear := if (levelUsed t).speed = s.drive.nTgt then s.drive.clear else 0 } ∧
      Queued (received s) t
        (if levelInUse t = s.drive.levelSeen then [] else [{
          kind := .driveState, sub := 2, time := t.partTime,
          data := [byteOf (levelInUse t), mode] ++ le4 (levelUsed t).speed }])))

/-- Stops at request (R6, R26), by release and by a LATCH press (R4), with the frame of a stop (R22). That a HALT DRIVE of
a fan that coasts leaves the cycle alone is log entry 19, and the place of EVACUATION behind the stop's reports log
entry 20. -/
def Obligations.StopRequestsStopTheDrive : Prop :=
  (∀ (s : State) (tag : Byte),
    Listening s → s.role = .handle → s.drive.state.running = true → ReportsFit s →
    Completes (.stop tag) s (fun t =>
      Replied (received s) t 0x11 tag .ok [] ∧
      StopMade .stopRequested (received s) t ∧
      Queued (received s) t (stopReportsOf .stopRequested (received s) t) ∧
      ChangesOnly [.port, .free, .drive, .motor, .dirt, .reports, .lost] (received s) t)) ∧
  (∀ (s : State) (tag : Byte),
    Listening s → s.role = .handle → s.drive.state.running = false →
    Completes (.stop tag) s (fun t =>
      Answered s t 0x11 tag .ok [] [.drive] ∧
      t.drive = { s.drive with
        armed := false, pendingStart := false, trigOn := s.drive.trigOn && (s.driveCfg.mode == .hold) })) ∧
  (∀ (s : State) (tag : Byte),
    Listening s → s.role = .handle → s.drive.state.running = true → ReportsFit s →
    Completes (.haltDrive tag) s (fun t =>
      Replied (received s) t 0x12 tag .ok [] ∧
      StopMade .halt (received s) t ∧
      Queued (received s) t (stopReportsOf .halt (received s) t) ∧
      ChangesOnly [.port, .free, .drive, .motor, .dirt, .reports, .lost] (received s) t)) ∧
  (∀ (s : State) (tag : Byte),
    Listening s → s.drive.state.running = false →
    Completes (.haltDrive tag) s (fun t =>
      Answered s t 0x12 tag .ok [] [.drive] ∧
      t.drive = { s.drive with
        armed := false, pendingStart := false, trigOn := s.drive.trigOn && (s.driveCfg.mode == .hold) })) ∧
  (∀ (s : State) (tag : Byte),
    Listening s → s.role = .dock → s.power.standbyPending = false → s.drive.state.running = true →
    Completes (.haltDrive tag) s (fun t =>
      Replied (received s) t 0x12 tag .ok [] ∧
      StopMade .halt s t ∧
      (ReportsFit s → Queued s t (stopReportsOf .halt s t ++ fanFaultReportsOf s t)) ∧
      t.cycle =
        (if evacLive s.cycle.state then
          { s.cycle with state := .aborted, reason := some .fanFault, elapsed := cycleElapsed s, timer := none } else
          s.cycle) ∧
      t.output = { s.output with
        pAllow := s.output.busLimit,
        iApp := appliedCurrent s.output.iRequested s.output.iMax s.output.busLimit s.output.vLim,
        status := t.output.status } ∧
      ChangesOnly [.port, .free, .drive, .motor, .dirt, .output, .cycle, .fill, .reports, .lost] s t)) ∧
  (∀ (s : State) (d : Nat),
    s.motor.candidate = some d →
    s.power.state = .active → s.role = .handle → s.power.waiting = [] → s.pins.trig = false →
    s.driveCfg.mode = .hold → s.drive.state.running = true → ReportsFit s →
    Completes (.triggerQualified) s (fun t =>
      t.now = s.atDeadline d ∧
      StopMade .triggerReleased { s with
        motor := { s.motor with candidate := none }, drive := { s.drive with trigPressed := false, trigOn := false } }
        t ∧
      Queued s t (stopReportsOf .triggerReleased s t) ∧
      ChangesOnly [.now, .drive, .motor, .dirt, .reports, .lost] s t)) ∧
  (∀ (s : State) (d : Nat),
    s.motor.candidate = some d →
    s.power.state = .active → s.power.standbyPending = false → s.role = .handle → s.power.waiting = [] →
    s.pins.trig = true → s.driveCfg.mode = .latch → s.drive.trigOn = true → s.drive.state.running = true →
    ReportsFit s →
    Completes (.triggerQualified) s (fun t =>
      t.now = s.atDeadline d ∧
      StopMade .triggerReleased { s with
        motor := { s.motor with candidate := none }, drive := { s.drive with trigPressed := true, trigOn := false } }
        t ∧
      Queued s t (stopReportsOf .triggerReleased s t) ∧
      ChangesOnly [.now, .drive, .motor, .dirt, .reports, .lost] s t))

/-- Sweep starts (R49 to R52, R68). -/
def Obligations.SweepTimerStartsASweep : Prop :=
  (∀ (s : State) (d : Nat),
    s.monitor.next = some d →
    s.monitor.sweep.isSome = true →
    Completes (.sweepTimerExpiry) s (fun t =>
      t.now = s.atDeadline d ∧
      t.monitor = { s.monitor with lastExpiry := d, next := some (d + s.monitor.periodMs * 1000000) } ∧
      ChangesOnly [.now, .monitor] s t)) ∧
  (∀ (s : State) (d : Nat),
    s.monitor.next = some d →
    s.monitor.sweep = none → s.seq.queue = [] →
    Completes (.sweepTimerExpiry) s (fun t =>
      t.now = s.atDeadline d ∧
      t.monitor =
        { s.monitor with lastExpiry := d, next := some (d + s.monitor.periodMs * 1000000), sweep := some [] } ∧
      t.session = { s.session with balance := [] } ∧
      t.power = { s.power with fast := if s.power.fast = .off then .settling (t.now + 1000000) else s.power.fast } ∧
      t.seq.held = false ∧
      (∀ c ∈ sweepChans s.role, (∃ e ∈ t.seq.queue, e.chan = c ∧ e.set.pack = true) ∨ (t.seq.inFlight.map (fun f =>
        (f.chan, f.set.pack))) = some (c, true)) ∧
      ChangesOnly [.now, .monitor, .session, .seq, .power] s t))

/-- The completion of a sweep (R53, R54, R62 to R64, R68). -/
def Obligations.SweepCompletionFillsTheRecord : Prop :=
  (∀ (s : State) (codes : Vector (BitVec 12) 8) (f : Conversion) (l : List Delivery),
    let raw := ((codes.toList.take f.count).map BitVec.toNat).sum / f.count
    let m := l ++
      [{
        chan := f.chan,
        value :=
          (if markOf f.chan raw = .none then calibrate f.chan (s.chan f.chan).cal raw else (s.chan f.chan).value),
        mark := markOf f.chan raw }]
    let k := fun t : State => (s.counter.residual - t.pack.packMa * (t.partTime - s.pack.time).toNat).tdiv 3600
    s.seq.inFlight = some f →
    s.monitor.sweep = some l →
    s.fastUp = true → s.role = .handle → f.set.pack = true → l.length = 10 →
    Completes (.conversionCompletion codes) s (fun t =>
      t.now = s.atDeadline f.endsAt ∧
      (t.monitor.sweep = none ∨ t.monitor.lastExpiry = t.now) ∧
      t.pack.cells =
        #v[sweepValue m .cell1, sweepValue m .cell2, sweepValue m .cell3, sweepValue m .cell4, sweepValue m .cell5,
          sweepValue m .cell6, sweepValue m .cell7] ∧
      (∀ x ∈ t.pack.cells.toList, t.pack.vmin ≤ x ∧ x ≤ t.pack.vmax) ∧
      (t.pack.cells.toList.findIdx? (fun x => x == t.pack.vmin) = some (t.pack.vminCell - 1) ∧ 1 ≤ t.pack.vminCell) ∧
      (t.pack.cells.toList.findIdx? (fun x => x == t.pack.vmax) = some (t.pack.vmaxCell - 1) ∧ 1 ≤ t.pack.vmaxCell) ∧
      t.pack.packMv = sweepValue m .packV ∧ t.pack.packMa = sweepValue m .packI ∧ t.pack.packT = sweepValue m .packT ∧
      t.pack.bridgeT = sweepValue m .bridgeT ∧
      t.pack.packMark = sweepMark m .packT ∧ t.pack.bridgeMark = sweepMark m .bridgeT ∧
      t.pack.time = t.partTime ∧ t.pack.valid = true ∧
      (s.pack.valid = false → s.session.phase = .none →
        let q := max 0 (min (s.counter.capacity * 1000) (restPercentage t.pack.vmin * s.counter.capacity * 10))
        t.counter = { s.counter with
          q := q, residual := 0, soc := (q * 100).tdiv (s.counter.capacity * 1000), origin := .voltage }) ∧
      (s.pack.valid = true → s.session.phase = .none →
        t.counter.q = max 0 (min (s.counter.capacity * 1000) (s.counter.q + k t)) ∧
        t.counter.residual =
          (if t.counter.q = s.counter.q + k t then
            s.counter.residual - t.pack.packMa * (t.partTime - s.pack.time).toNat - 3600 * k t
          else 0) ∧
        t.counter.soc = (t.counter.q * 100).tdiv (s.counter.capacity * 1000) ∧
        t.counter.origin =
          (if k t ≠ 0 ∧ (s.counter.origin = .voltage ∨ s.counter.origin = .full) then .counted else s.counter.origin) ∧
        t.counter.capacity = s.counter.capacity))) ∧
  (∀ (s : State) (codes : Vector (BitVec 12) 8) (f : Conversion) (l : List Delivery),
    let raw := ((codes.toList.take f.count).map BitVec.toNat).sum / f.count
    let m := l ++
      [{
        chan := f.chan,
        value :=
          (if markOf f.chan raw = .none then calibrate f.chan (s.chan f.chan).cal raw else (s.chan f.chan).value),
        mark := markOf f.chan raw }]
    s.seq.inFlight = some f →
    s.monitor.sweep = some l →
    s.fastUp = true → s.role = .dock → f.set.pack = true → l.length = 2 →
    Completes (.conversionCompletion codes) s (fun t =>
      t.now = s.atDeadline f.endsAt ∧
      (t.monitor.sweep = none ∨ t.monitor.lastExpiry = t.now) ∧
      t.supply = {
        busMv := sweepValue m .busV, ambientT := sweepValue m .packT, bridgeT := sweepValue m .bridgeT,
        time := t.partTime, valid := true, ambientMark := sweepMark m .packT, bridgeMark := sweepMark m .bridgeT } ∧
      t.pack = s.pack ∧ t.counter = s.counter))

/-- The limits of the pack monitor (R55 to R59, R69), at the completion of a sweep and by the limit commands, which act
where the count stands one short of its limit: the model's choice (log entry 7). The stop of a run by BUS_LOW is in the
order of log entry 20. -/
def Obligations.PackLimitsRaiseAndEnd : Prop :=
  (∀ (s : State),
    Calm s → s.power.fast = .running → ReportsFit s → s.pack.valid = true → condActive s .cellTapFault = false →
    (s.pack.cells.toList.sum - s.pack.packMv) < -300 ∨ 300 < (s.pack.cells.toList.sum - s.pack.packMv) →
    2 ≤ s.monitor.counts.mismatch →
    Completes (.tapMismatchLimit) s (fun t =>
      RaisedCalmly .cellTapFault (some (.number (s.pack.cells.toList.sum - s.pack.packMv))) s t ∧
      t.monitor = { s.monitor with counts := { s.monitor.counts with mismatch := 0 } } ∧
      ChangesOnly [.conds, .drive, .monitor, .reports, .lost] s t)) ∧
  (∀ (s : State),
    s.role = .handle → s.up = true → s.power.fast = .running → ReportsFit s → s.pack.valid = true →
    condActive s .cellTapFault = true →
    -300 ≤ (s.pack.cells.toList.sum - s.pack.packMv) ∧ (s.pack.cells.toList.sum - s.pack.packMv) ≤ 300 →
    2 ≤ s.monitor.counts.matched →
    Completes (.tapMatchLimit) s (fun t =>
      Ended .cellTapFault s t ∧
      Queued s t [endedReportOf .cellTapFault s t] ∧
      t.monitor = { s.monitor with counts := { s.monitor.counts with matched := 0 } } ∧
      ChangesOnly [.conds, .monitor, .reports, .lost] s t)) ∧
  (∀ (s : State),
    Calm s → s.power.fast = .running → ReportsFit s → s.pack.valid = true → condActive s .cellOvervolt = false →
    4250 ≤ s.pack.vmax → 1 ≤ s.monitor.counts.cellOvervolt →
    Completes (.thresholdPersistenceMet .cellOvervolt) s (fun t =>
      RaisedCalmly .cellOvervolt (some (.cellVolt s.pack.vmaxCell s.pack.vmax)) s t ∧
      t.monitor = { s.monitor with counts := { s.monitor.counts with cellOvervolt := 0 } } ∧
      ChangesOnly [.conds, .drive, .monitor, .reports, .lost] s t)) ∧
  (∀ (s : State),
    Calm s → s.power.fast = .running → ReportsFit s → s.pack.valid = true → condActive s .cellUndervolt = false →
    s.pack.vmin ≤ 2800 → 2 ≤ s.monitor.counts.cellUndervolt →
    Completes (.thresholdPersistenceMet .cellUndervolt) s (fun t =>
      RaisedCalmly .cellUndervolt (some (.cellVolt s.pack.vminCell s.pack.vmin)) s t ∧
      t.monitor = { s.monitor with counts := { s.monitor.counts with cellUndervolt := 0 } } ∧
      ChangesOnly [.conds, .drive, .monitor, .reports, .lost] s t)) ∧
  (∀ (s : State),
    Calm s → s.power.fast = .running → ReportsFit s → s.pack.valid = true → condActive s .packOvertemp = false →
    720 ≤ s.pack.packT → 1 ≤ s.monitor.counts.packOvertemp →
    Completes (.thresholdPersistenceMet .packOvertemp) s (fun t =>
      RaisedCalmly .packOvertemp (some (.number s.pack.packT)) s t ∧
      t.monitor = { s.monitor with counts := { s.monitor.counts with packOvertemp := 0 } } ∧
      ChangesOnly [.conds, .drive, .monitor, .reports, .lost] s t)) ∧
  (∀ (s : State),
    Calm s → s.power.fast = .running → ReportsFit s → s.pack.valid = true → condActive s .bridgeOvertemp = false →
    1000 ≤ s.pack.bridgeT → 1 ≤ s.monitor.counts.bridgeOvertemp →
    Completes (.thresholdPersistenceMet .bridgeOvertemp) s (fun t =>
      RaisedCalmly .bridgeOvertemp (some (.number s.pack.bridgeT)) s t ∧
      t.monitor = { s.monitor with counts := { s.monitor.counts with bridgeOvertemp := 0 } } ∧
      ChangesOnly [.conds, .drive, .monitor, .reports, .lost] s t)) ∧
  (∀ (s : State),
    Calm s → s.power.fast = .running → ReportsFit s → s.pack.valid = true → condActive s .cellImbalance = false →
    300 ≤ s.pack.vmax - s.pack.vmin → s.drive.state = .stopped → -99 ≤ s.pack.packMa ∧ s.pack.packMa ≤ 99 →
    2 ≤ s.monitor.counts.cellImbalance →
    Completes (.thresholdPersistenceMet .cellImbalance) s (fun t =>
      RaisedCalmly .cellImbalance (some (.imbalance (s.pack.vmax - s.pack.vmin) s.pack.vmaxCell s.pack.vminCell)) s t
        ∧
      t.monitor = { s.monitor with counts := { s.monitor.counts with cellImbalance := 0 } } ∧
      ChangesOnly [.conds, .drive, .monitor, .reports, .lost] s t)) ∧
  (∀ (s : State),
    Calm s → s.power.fast = .running → ReportsFit s → s.pack.valid = true → condActive s .tempSensorFault = false →
    (s.pack.packMark ≠ .none ∨ s.pack.bridgeMark ≠ .none) →
    Completes (.thresholdPersistenceMet .tempSensorFault) s (fun t =>
      RaisedCalmly .tempSensorFault (some (if s.pack.packMark ≠ .none then .sensor .packT s.pack.packMark else .sensor
        .bridgeT s.pack.bridgeMark)) s t ∧
      t.monitor = { s.monitor with counts := { s.monitor.counts with tempSensor := 0 } } ∧
      ChangesOnly [.conds, .drive, .monitor, .reports, .lost] s t)) ∧
  (∀ (s : State),
    s.role = .handle → s.up = true → s.power.fast = .running → ReportsFit s → s.pack.valid = true →
    condActive s .tempSensorFault = true → s.pack.packMark = .none ∧ s.pack.bridgeMark = .none →
    2 ≤ s.monitor.counts.sensorEnd →
    Completes (.sensorEndCountLimit) s (fun t =>
      Ended .tempSensorFault s t ∧
      Queued s t [endedReportOf .tempSensorFault s t] ∧
      t.monitor = { s.monitor with counts := { s.monitor.counts with sensorEnd := 0 } } ∧
      ChangesOnly [.conds, .monitor, .reports, .lost] s t)) ∧
  (∀ (s : State),
    s.role = .dock → s.up = true → s.power.fast = .running → s.supply.valid = true → condActive s .busLow = false →
    s.supply.busMv < 30000 → 1 ≤ s.monitor.counts.busLow → ReportsFit s →
    Completes (.busLowCountLimit) s (fun t =>
      Raised .busLow (some (.number s.supply.busMv)) s t ∧
      Queued s t ([raisedReportOf .busLow (some (.number s.supply.busMv)) s t] ++ cancelledReportsOf s t ++ (if
        s.drive.state.running then stopReportsOf .inhibited s t ++ fanFaultReportsOf s t else [])) ∧
      t.monitor = { s.monitor with counts := { s.monitor.counts with busLow := 0 } } ∧
      t.output.permission = false ∧ t.output.duty = 0 ∧ t.output.period = none ∧ t.output.status = .fault ∧
      t.drive.state = (if s.drive.state.running then .coasting else s.drive.state) ∧
      t.cycle =
        (if s.drive.state.running = true ∧ evacLive s.cycle.state = true then
          { s.cycle with state := .aborted, reason := some .fanFault, elapsed := cycleElapsed s, timer := none } else
          s.cycle) ∧
      ChangesOnly [.conds, .drive, .motor, .dirt, .monitor, .output, .cycle, .fill, .power, .reports, .lost] s t)) ∧
  (∀ (s : State) (codes : Vector (BitVec 12) 8) (f : Conversion) (l : List Delivery),
    s.seq.inFlight = some f →
    s.monitor.sweep = some l →
    s.fastUp = true → s.role = .handle → f.set.pack = true → l.length = 10 →
    Completes (.conversionCompletion codes) s (fun t =>
      TapChecked s t ∧ ∀ k : Threshold, ThresholdChecked k s t)) ∧
  (∀ (s : State) (codes : Vector (BitVec 12) 8) (f : Conversion) (l : List Delivery),
    s.seq.inFlight = some f →
    s.monitor.sweep = some l →
    s.fastUp = true → s.role = .dock → f.set.pack = true → l.length = 2 →
    Completes (.conversionCompletion codes) s (fun t =>
      BusLowChecked s t ∧ ThresholdChecked .bridgeOvertemp s t ∧ ThresholdChecked .tempSensorFault s t))

/-- What the raise of CELL_TAP_FAULT by TAP_MISMATCH_LIMIT does to the drive and the session (R24, R78). The command acts
with two mismatched sweeps counted: the model's choice (log entry 7). -/
def Obligations.RaiseStopsTheDriveAndSuspendsTheCharge : Prop :=
  (∀ (s : State),
    s.role = .handle → s.power.state = .active → s.power.fast = .running → s.power.standbyPending = false →
    s.pack.valid = true → condActive s .cellTapFault = false →
    (s.pack.cells.toList.sum - s.pack.packMv) < -300 ∨ 300 < (s.pack.cells.toList.sum - s.pack.packMv) →
    2 ≤ s.monitor.counts.mismatch →
    Completes (.tapMismatchLimit) s (fun t =>
      condActive t .cellTapFault = true ∧
      (s.drive.state.running = true → t.drive.state = .coasting ∧ t.drive.duty = 0 ∧ t.drive.lastStop = some
        .inhibited ∧ t.drive.armed = s.drive.armed ∧ t.drive.pendingStart = s.drive.pendingStart ∧ t.motor.pumpOn =
        false ∧ t.motor.bridge = none) ∧
      (s.drive.state.running = false → t.drive.state = s.drive.state ∧ t.drive.lastStop = s.drive.lastStop) ∧
      (s.session.phase = .qualify ∨ s.session.phase.charging = true → t.session.phase = .suspended ∧
        t.session.switchClosed = false ∧ t.session.request = 0 ∧ t.session.precharge = none ∧ t.session.topBalance =
        none ∧ t.session.dockTimer = none ∧ t.session.termination = 0 ∧ t.session.limit = s.session.limit ∧
        t.session.reason = some (if s.link.state ≠ .linked then .linkLost else if condActive s .chargeTemp then .temp
        else .inhibited)) ∧
      (s.session.phase ≠ .qualify → s.session.phase.charging = false → t.session =
        { s.session with balance := t.session.balance }) ∧
      ChangesOnly [.drive, .motor, .dirt, .session, .conds, .monitor, .seq, .fill, .power, .reports, .lost] s t))

/-- Settings of the charge and its halt (R66, R71, R93, R169). -/
def Obligations.ChargeSettingsAndHalt : Prop :=
  (∀ (s : State) (tag : Byte) (c : BitVec 16),
    let cap := max 1000 (min 6000 (c.toNat : Int))
    let q := max 0 (min (cap * 1000) ((s.counter.q * cap).tdiv s.counter.capacity))
    Listening s → s.role = .handle →
    Completes (.configurePack tag c) s (fun t =>
      t.counter =
        (if cap = s.counter.capacity then s.counter else { s.counter with
          capacity := cap, q := q,
          residual := if q = (s.counter.q * cap).tdiv s.counter.capacity then s.counter.residual else 0,
          soc := (q * 100).tdiv (cap * 1000) }) ∧
      Answered s t 0x22 tag (if cap = (c.toNat : Int) then .ok else .okClamped) (le2 cap) [.counter])) ∧
  (∀ (s : State) (tag : Byte) (i v : BitVec 16),
    let cc := max 500 (min 2500 (i.toNat : Int))
    let full := max 4100 (min 4200 (v.toNat : Int))
    Listening s → s.role = .handle →
    Completes (.configureCharge tag i v) s (fun t =>
      t.chargeCfg = { iCc := cc, vCellFull := full } ∧
      t.session = { s.session with
        vLimit := 7 * full,
        request := if s.session.phase = .constCurrent then cc else if s.session.phase = .constVoltage then min
          s.session.request cc else s.session.request } ∧
      Answered s t 0x23 tag (if cc = (i.toNat : Int) ∧ full = (v.toNat : Int) then .ok else .okClamped) (le2 cc ++ le2
        full) [.chargeCfg, .session])) ∧
  (∀ (s : State) (tag : Byte),
    Listening s → s.role = .handle → (s.conds.map (·.kind)).Nodup →
    Completes (.haltCharge tag) s (fun t =>
      Replied (received s) t 0x12 tag .ok [] ∧
      t.session = { s.session with
        phase := .none, reason := if s.session.phase = .none then s.session.reason else none, request := 0,
        switchClosed := false, balance := [],
        phaseEntry := if s.session.phase = .none then s.session.phaseEntry else t.partTime, precharge := none,
        topBalance := none, limit := none, termination := 0, dockTimer := none,
        restart := if s.link.docked then some (t.now + 1000000000) else none } ∧
      condActive t .chargeTemp = false ∧
      (s.session.phase = .none → condActive s .chargeTemp = false → t.reports = (received s).reports ∧ t.lost =
        (received s).lost) ∧
      ChangesOnly [.port, .free, .session, .conds, .reports, .lost, .seq, .monitor, .power] (received s) t)) ∧
  (∀ (s : State) (tag : Byte),
    Listening s → s.role = .dock →
    Completes (.haltCharge tag) s (fun t =>
      Replied (received s) t 0x12 tag .ok [] ∧
      t.output = { s.output with
        permission := false, duty := 0, period := none, stale := 0,
        status := if outputInhibited s then .fault else .off } ∧
      ChangesOnly [.port, .free, .output] (received s) t))

/-- The timers of the charge controller (R79 to R88, R93). What TERMINATION_TIME_REACHED stands for is log entry 7: the
model's. -/
def Obligations.ChargeTimersMoveThePhase : Prop :=
  (∀ (s : State) (d : Nat),
    s.session.precharge = some d →
    s.role = .handle → s.power.standbyPending = false → ReportsFit s → condActive s .chargeFailed = false →
    NoPortAlone s →
    Completes (.prechargeTimerExpiry) s (fun t =>
      t.now = s.atDeadline d ∧
      PhaseMoved .failed (some .prechargeTimeout) s t ∧
      Raised .chargeFailed (some (.failure 4 s.session.phase.code)) s t ∧
      Queued s t [raisedReportOf .chargeFailed (some (.failure 4 s.session.phase.code)) s t, phaseReportOf t] ∧
      ChangesOnly (phaseBlocks ++ [.now, .conds]) s t)) ∧
  (∀ (s : State) (d : Nat),
    s.session.limit = some d →
    s.role = .handle → s.power.standbyPending = false → ReportsFit s → condActive s .chargeFailed = false →
    NoPortAlone s →
    Completes (.sessionLimitExpiry) s (fun t =>
      t.now = s.atDeadline d ∧
      PhaseMoved .failed (some .timeLimit) s t ∧
      Raised .chargeFailed (some (.failure 5 s.session.phase.code)) s t ∧
      Queued s t [raisedReportOf .chargeFailed (some (.failure 5 s.session.phase.code)) s t, phaseReportOf t] ∧
      ChangesOnly (phaseBlocks ++ [.now, .conds]) s t)) ∧
  (∀ (s : State) (d : Nat),
    s.session.topBalance = some d →
    ReportsFit s → NoPortAlone s →
    Completes (.topBalanceTimerExpiry) s (fun t =>
      t.now = s.atDeadline d ∧
      PhaseMoved .done none s t ∧
      t.counter = { s.counter with q := s.counter.capacity * 1000, residual := 0, soc := 100, origin := .full } ∧
      Queued s t [phaseReportOf t] ∧
      ChangesOnly (phaseBlocks ++ [.now, .counter]) s t)) ∧
  (∀ (s : State),
    s.session.phase = .constVoltage → s.session.dock.status ≠ .limited → -150 ≤ s.pack.packMa →
    60000 ≤ s.session.termination + s.age s.pack.time → s.pack.vmax - s.pack.vmin ≤ 20 → ReportsFit s →
    NoPortAlone s →
    Completes (.terminationTimeReached) s (fun t =>
      t.now = s.now ∧
      PhaseMoved .done none s t ∧
      t.counter = { s.counter with q := s.counter.capacity * 1000, residual := 0, soc := 100, origin := .full } ∧
      Queued s t [phaseReportOf t] ∧
      ChangesOnly (phaseBlocks ++ [.now, .counter]) s t)) ∧
  (∀ (s : State),
    s.session.phase = .constVoltage → s.session.dock.status ≠ .limited → -150 ≤ s.pack.packMa →
    60000 ≤ s.session.termination + s.age s.pack.time → 20 < s.pack.vmax - s.pack.vmin → ReportsFit s →
    NoPortAlone s →
    Completes (.terminationTimeReached) s (fun t =>
      t.now = s.now ∧
      PhaseMoved .topBalance none s t ∧
      Queued s t [phaseReportOf t] ∧
      ChangesOnly (phaseBlocks ++ [.now]) s t)) ∧
  (∀ (s : State) (d : Nat),
    s.session.dockTimer = some d →
    s.session.phase.charging = true → ReportsFit s → NoPortAlone s →
    Completes (.dockStatusTimerExpiry) s (fun t =>
      t.now = s.atDeadline d ∧
      PhaseMoved .suspended (some .linkLost) s t ∧
      Queued s t [phaseReportOf t] ∧
      ChangesOnly (phaseBlocks ++ [.now]) s t)) ∧
  (∀ (s : State) (d : Nat),
    s.session.restart = some d →
    s.link.docked = true → s.link.state = .linked → s.session.phase = .none → ReportsFit s → NoPortAlone s →
    Completes (.restartDelayExpiry) s (fun t =>
      t.now = s.atDeadline d ∧
      t.session = { s.session with
        restart := none, phase := .qualify, reason := none, phaseEntry := t.partTime, start := t.partTime,
        request := 0, switchClosed := false, balance := t.session.balance, precharge := none, topBalance := none,
        limit := none, termination := 0, dock := resetDockStatus, dockTimer := none } ∧
      Queued s t [phaseReportOf t] ∧
      ChangesOnly (phaseBlocks ++ [.now]) s t)) ∧
  (∀ (s : State) (d : Nat),
    s.session.restart = some d →
    (s.link.docked = false ∨ s.link.state ≠ .linked) →
    Completes (.restartDelayExpiry) s (fun t =>
      t.now = s.atDeadline d ∧
      t.session = { s.session with restart := none } ∧
      ChangesOnly [.now, .session] s t))

/-- The phase decisions (R77, R80 to R86), on the operation that makes them, and the charge controller's whole work at the
conversion that completes a sweep (R75, R76, R78, R88, R91). Where that work sees a raise of the same sweep is log entry
16, and the set that stays empty while the next sweep is in flight log entry 26. -/
def Obligations.PhaseDecisionsOfASweep : Prop :=
  (∀ (s : State) (dt : Nat),
    let p := (phaseDecision dt s).session.phase
    s.session.phase = .qualify → (chargeInhibited s = true ∨ s.link.state ≠ .linked) →
    p = .suspended) ∧
  (∀ (s : State) (dt : Nat),
    let p := (phaseDecision dt s).session.phase
    s.session.phase = .qualify → chargeInhibited s = false → s.link.state = .linked →
    (s.drive.state ≠ .stopped ∨ s.dockCfg.chargingEnabled = false) →
    p = .qualify) ∧
  (∀ (s : State) (dt : Nat),
    let p := (phaseDecision dt s).session.phase
    let v := s.pack
    s.session.phase = .qualify → chargeInhibited s = false → s.link.state = .linked → s.drive.state = .stopped →
    s.dockCfg.chargingEnabled = true →
    p = (if v.vmin < 3000 then .precharge else if v.vmin ≤ 4050 then .constCurrent else .done)) ∧
  (∀ (s : State) (dt : Nat),
    let p := (phaseDecision dt s).session.phase
    let v := s.pack
    s.session.phase = .precharge →
    p = (if 3000 ≤ v.vmin then .constCurrent else .precharge)) ∧
  (∀ (s : State) (dt : Nat),
    let p := (phaseDecision dt s).session.phase
    let v := s.pack
    s.session.phase = .constCurrent →
    p = (if s.chargeCfg.vCellFull ≤ v.vmax then .constVoltage else .constCurrent)) ∧
  (∀ (s : State) (dt : Nat),
    let p := (phaseDecision dt s).session.phase
    let v := s.pack
    let tt := if s.session.dock.status =
      .limited then s.session.termination else if -v.packMa ≤ 150 then min 60000 (s.session.termination + dt) else 0
    let rq :=
      if s.chargeCfg.vCellFull < v.vmax then max 0 (s.session.request - 50)
      else if v.vmax < s.chargeCfg.vCellFull - 10 then min s.chargeCfg.iCc (s.session.request + 25)
           else s.session.request
    s.session.phase = .constVoltage →
    p = (if 60000 ≤ tt then (if 20 < v.vmax - v.vmin then .topBalance else .done) else .constVoltage) ∧
    (tt < 60000 → (phaseDecision dt s).session = { s.session with request := rq, termination := tt })) ∧
  (∀ (s : State) (dt : Nat),
    let p := (phaseDecision dt s).session.phase
    let v := s.pack
    s.session.phase = .topBalance →
    p = (if v.vmax - v.vmin ≤ 20 then .done else .topBalance)) ∧
  (∀ (s : State) (dt : Nat),
    let p := (phaseDecision dt s).session.phase
    let v := s.pack
    s.session.phase = .done →
    p = (if v.vmin ≤ 4050 then .qualify else .done)) ∧
  (∀ (s : State) (dt : Nat),
    let p := (phaseDecision dt s).session.phase
    s.session.phase = .suspended →
    p =
      (if s.link.state = .linked ∧ chargeInhibited s = false ∧ s.session.dock.status ≠ .fault then .qualify
       else .suspended)) ∧
  (∀ (s : State) (dt : Nat),
    (s.session.phase = .none ∨ s.session.phase = .failed) →
    phaseDecision dt s = s) ∧
  (∀ (s : State) (codes : Vector (BitVec 12) 8) (f : Conversion) (l : List Delivery),
    s.seq.inFlight = some f →
    s.monitor.sweep = some l →
    s.power.state = .active → s.power.fast = .running → s.role = .handle → f.set.pack = true → l.length = 10 →
    Completes (.conversionCompletion codes) s (fun t =>
      ChargeWorked s t))

/-- The choice of the balance set (R91). -/
def Obligations.BalanceSetIsTheHighestThree : Prop :=
  ∀ p : PackRec,
    let v := fun n : Nat => p.cells.toList.getD (n - 1) 0
    let cand := fun n : Nat => 1 ≤ n ∧ n ≤ 7 ∧ 20 ≤ v n - p.vmin ∧ 4000 ≤ v n
    let before := fun a b : Nat => v b < v a ∨ (v a = v b ∧ a < b)
    (balanceSet p).length ≤ 3 ∧ (balanceSet p).Nodup ∧ (∀ n ∈ balanceSet p, cand n) ∧
    (balanceSet p).Pairwise before ∧
    ∀ n : Nat, cand n → n ∈ balanceSet p ∨ ((balanceSet p).length = 3 ∧ ∀ m ∈ balanceSet p, before m n)

/-- Pulses and counts (R94, R95). That a crossing with the fast clock off changes nothing is log entry 17. -/
def Obligations.ImpactsAreCounted : Prop :=
  (∀ (s : State),
    s.role = .handle → s.fastUp = true → s.dirt.dead = none → s.sensingCfg.rejectUs ≠ 0 →
    Completes (.impactPulse) s (fun t =>
      t.dirt = { s.dirt with pulse := some (s.now + s.sensingCfg.rejectUs * 1000) } ∧
      ChangesOnly [.dirt] s t)) ∧
  (∀ (s : State) (n : Nat),
    s.dirt.window = some n →
    s.role = .handle → s.fastUp = true → s.dirt.dead = none → s.sensingCfg.rejectUs = 0 →
    Completes (.impactPulse) s (fun t =>
      t.dirt = { s.dirt with pulse := none, window := some (min 4095 (n + 1)), dead := some (s.now + 25000) } ∧
      ChangesOnly [.dirt] s t)) ∧
  (∀ (s : State),
    (s.role = .dock ∨ s.fastUp = false ∨ s.dirt.dead.isSome = true) →
    Completes (.impactPulse) s (fun t => t = s)) ∧
  (∀ (s : State) (d n : Nat),
    s.dirt.pulse = some d →
    s.dirt.window = some n →
    s.fastUp = true →
    Completes (.impactQualified true) s (fun t =>
      t.now = s.atDeadline d ∧
      t.dirt = { s.dirt with pulse := none, window := some (min 4095 (n + 1)), dead := some (t.now + 25000) } ∧
      ChangesOnly [.now, .dirt] s t)) ∧
  (∀ (s : State) (high : Bool) (d : Nat),
    s.dirt.pulse = some d →
    s.fastUp = true → (high = false ∨ s.dirt.window = none) →
    Completes (.impactQualified high) s (fun t =>
      t.now = s.atDeadline d ∧
      t.dirt = { s.dirt with pulse := none } ∧
      ChangesOnly [.now, .dirt] s t)) ∧
  (∀ (s : State) (d : Nat),
    s.dirt.dead = some d →
    s.fastUp = true →
    Completes (.impactDeadTimeEnd) s (fun t =>
      t.now = s.atDeadline d ∧
      t.dirt = { s.dirt with dead := none } ∧
      ChangesOnly [.now, .dirt] s t))

/-- The window close and the dirt grade (R96 to R98). GRADE_RISE and GRADE_FALL act where the count stands one short of its
limit: the model's choice (log entry 7). -/
def Obligations.WindowCloseGradesTheDirt : Prop :=
  (∀ (s : State) (d n : Nat),
    let ring := (if 20 ≤ s.dirt.ring.length then s.dirt.ring.drop 1 else s.dirt.ring) ++ [n]
    s.dirt.windowTimer = some d →
    s.dirt.window = some n →
    ring.length < 4 →
    Completes (.windowClose) s (fun t =>
      t.now = s.atDeadline d ∧
      t.dirt = { s.dirt with
        ring := ring, total := min 4294967295 (s.dirt.total + n), window := some 0,
        windowTimer := some (d + 50000000) } ∧
      ChangesOnly [.now, .dirt] s t)) ∧
  (∀ (s : State) (d n : Nat),
    let ring := (if 20 ≤ s.dirt.ring.length then s.dirt.ring.drop 1 else s.dirt.ring) ++ [n]
    let rate := ((ring.sum * 20 / ring.length : Nat) : Int)
    let g := s.dirt.grade
    let met :=
      if s.sensingCfg.t3 ≤ rate then 3
      else if s.sensingCfg.t2 ≤ rate then 2 else if s.sensingCfg.t1 ≤ rate then 1 else 0
    let bar := if g = 1 then s.sensingCfg.t1 else if g = 2 then s.sensingCfg.t2 else s.sensingCfg.t3
    let rise := if g < met then s.dirt.rise + 1 else 0
    let fall := if 1 ≤ g ∧ rate < (bar * 3).tdiv 4 then s.dirt.fall + 1 else 0
    let g1 := if 2 ≤ rise then met else if 10 ≤ fall then g - 1 else g
    let moves := 2 ≤ rise ∨ 10 ≤ fall
    s.dirt.windowTimer = some d →
    s.dirt.window = some n →
    4 ≤ ring.length → ReportsFit s →
    Completes (.windowClose) s (fun t =>
      t.now = s.atDeadline d ∧
      t.dirt = { s.dirt with
        ring := ring, total := min 4294967295 (s.dirt.total + n), window := some 0,
        windowTimer := some (d + 50000000), rate := rate, grade := g1, rise := if moves then 0 else rise,
        fall := if moves then 0 else fall } ∧
      Watched .dirtRate rate s t ∧
      Queued s t (firedReports .dirtRate rate s t ++ (if moves then
        [{ kind := .dirtGrade, sub := 0, time := t.partTime, data := [byteOf g, byteOf g1] ++ le4 rate }] else [])) ∧
      ChangesOnly [.now, .dirt, .watches, .reports, .lost] s t)) ∧
  (∀ (s : State),
    let g := s.dirt.grade
    let met :=
      if s.sensingCfg.t3 ≤ s.dirt.rate then 3
      else if s.sensingCfg.t2 ≤ s.dirt.rate then 2 else if s.sensingCfg.t1 ≤ s.dirt.rate then 1 else 0
    s.dirt.window.isSome = true → 4 ≤ s.dirt.ring.length → ReportsFit s → g < met → 1 ≤ s.dirt.rise →
    Completes (.gradeRise) s (fun t =>
      t.dirt = { s.dirt with grade := met, rise := 0, fall := 0 } ∧
      Queued s t
        [{ kind := .dirtGrade, sub := 0, time := t.partTime, data := [byteOf g, byteOf met] ++ le4 s.dirt.rate }] ∧
      ChangesOnly [.dirt, .reports, .lost] s t)) ∧
  (∀ (s : State),
    let g := s.dirt.grade
    let bar := if g = 1 then s.sensingCfg.t1 else if g = 2 then s.sensingCfg.t2 else s.sensingCfg.t3
    s.dirt.window.isSome = true → 4 ≤ s.dirt.ring.length → ReportsFit s → 1 ≤ g → s.dirt.rate < (bar * 3).tdiv 4 →
    9 ≤ s.dirt.fall →
    Completes (.gradeFall) s (fun t =>
      t.dirt = { s.dirt with grade := g - 1, rise := 0, fall := 0 } ∧
      Queued s t
        [{ kind := .dirtGrade, sub := 0, time := t.partTime, data := [byteOf g, byteOf (g - 1)] ++ le4 s.dirt.rate }]
        ∧
      ChangesOnly [.dirt, .reports, .lost] s t))

/-- Scan starts (R101 to R103). -/
def Obligations.ScanTimerStartsAScan : Prop :=
  (∀ (s : State) (d : Nat),
    s.fill.next = some d →
    s.fill.scan.isSome = true →
    Completes (.scanTimerExpiry) s (fun t =>
      t.now = s.atDeadline d ∧
      t.fill = { s.fill with lastExpiry := d, next := some (d + s.fill.periodMs * 1000000) } ∧
      ChangesOnly [.now, .fill] s t)) ∧
  (∀ (s : State) (d : Nat),
    let w := if s.sensingCfg.width < 12 ∧ s.drive.state ≠ .stopped then 12 else s.sensingCfg.width
    s.fill.next = some d →
    s.fill.scan = none →
    Completes (.scanTimerExpiry) s (fun t =>
      t.now = s.atDeadline d ∧
      t.fill = { s.fill with
        lastExpiry := d, next := some (d + s.fill.periodMs * 1000000),
        scan := some {
          width := w,
          endsAt := t.now + 8 * (s.sensingCfg.drainUs + s.sensingCfg.chargeUs + (2 ^ w + s.sensingCfg.clockMhz - 1) /
            s.sensingCfg.clockMhz) * 1000, rebase := s.fill.rebasePending } } ∧
      ChangesOnly [.now, .fill] s t))

/-- The completion of a scan (R106 to R108, R111, R112), with the automatic evacuation (R152) and, in the dock, the end of
the cycle where BAG_FULL is raised (R173). That the raw level becomes
0 at a rebase too is log entry 25, and the automatic start behind the checks of the evacuation log entry 23. -/
def Obligations.ScanCompletionFindsTheLevel : Prop :=
  (∀ (s : State) (raws : Vector (BitVec 16) 8) (c : Scan),
    let x := fun i : Fin 8 => ((min raws[i].toNat (2 ^ c.width - 1) * 2 ^ (16 - c.width) : Nat) : Int)
    let e := s.fill.electrodes
    let delta := fun i : Fin 8 => max (0 : Int) ((e[i]).baseline - x i - max (0 : Int) ((e[6]).baseline - x 6))
    s.fill.scan = some c →
    (s.fill.rebasePending = false ∨ c.rebase = false ∨ s.drive.state ≠ .stopped) →
    Completes (.scanCompletion raws) s (fun t =>
      t.now = s.atDeadline c.endsAt ∧
      (∀ i : Fin 8, (t.fill.electrodes[i]).raw = x i) ∧
      t.fill.time = t.partTime ∧
      t.fill.rebasePending = (s.fill.rebasePending && !c.rebase) ∧
      (∀ i : Fin 8, i.val < 6 → (t.fill.electrodes[i]).delta = delta i ∧ ((t.fill.electrodes[i]).covered = true ↔ 0 <
        (e[i]).baseline ∧ (e[i]).baseline * s.sensingCfg.cover ≤ delta i * 1000)) ∧
      (t.fill.rawLevel ≤ 6 ∧ (∀ i : Fin 8, i.val < t.fill.rawLevel → (t.fill.electrodes[i]).covered = true) ∧ (∀ i :
        Fin 8, i.val = t.fill.rawLevel → i.val < 6 → (t.fill.electrodes[i]).covered = false)) ∧
      (t.fill.debounced, t.fill.candidate, t.fill.candCount) =
        (if t.fill.rawLevel = s.fill.debounced then (s.fill.debounced, none, 0) else if s.fill.candidate = some
          t.fill.rawLevel then (if 3 ≤ s.fill.candCount + 1 then (t.fill.rawLevel, none, 0) else (s.fill.debounced,
          s.fill.candidate, s.fill.candCount + 1)) else (s.fill.debounced, some t.fill.rawLevel, 1)) ∧
      (∀ i : Fin 8, (t.fill.electrodes[i]).baseline = (e[i]).baseline + (if t.fill.debounced = 0 ∧ s.drive.state =
        .stopped ∧ (s.role = .dock ∨ (x 7 - (e[7]).baseline < ((e[7]).baseline * 250).tdiv 1000 ∧ condActive t
        .binAbsent = false)) then (x i - (e[i]).baseline).tdiv 16 else 0)))) ∧
  (∀ (s : State) (raws : Vector (BitVec 16) 8) (c : Scan),
    let x := fun i : Fin 8 => ((min raws[i].toNat (2 ^ c.width - 1) * 2 ^ (16 - c.width) : Nat) : Int)
    s.fill.scan = some c →
    s.fill.rebasePending = true → c.rebase = true → s.drive.state = .stopped → 0 < s.sensingCfg.cover →
    Completes (.scanCompletion raws) s (fun t =>
      t.now = s.atDeadline c.endsAt ∧
      (∀ i : Fin 8, (t.fill.electrodes[i]).raw = x i ∧ (t.fill.electrodes[i]).baseline = x i) ∧
      (∀ i : Fin 8, i.val < 6 → (t.fill.electrodes[i]).delta = 0 ∧ (t.fill.electrodes[i]).covered = false) ∧
      t.fill.rawLevel = 0 ∧ t.fill.debounced = 0 ∧ t.fill.candidate = none ∧ t.fill.rebasePending = false ∧
      t.fill.time = t.partTime)) ∧
  (∀ (s : State) (raws : Vector (BitVec 16) 8) (c : Scan),
    s.fill.scan = some c →
    Completes (.scanCompletion raws) s (fun t =>
      (StartsItself s t → t.link = { s.link with
        evac := .requested, pend := { s.link.pend with evacStart := true }, stopPending := false, postCount := none,
        queryPoll := some (s.link.queryPoll.getD (t.now + 500000000)) }) ∧
      (¬ StartsItself s t → t.link = { s.link with postCount := t.link.postCount }))) ∧
  (∀ (s : State) (raws : Vector (BitVec 16) 8) (c : Scan),
    s.fill.scan = some c →
    s.role = .dock → s.power.standbyPending = false → ReportsFit s → evacLive s.cycle.state = true →
    condActive s .bagFull = false →
    Completes (.scanCompletion raws) s (fun t =>
      condActive t .bagFull = true →
      EndedByBag s t ∧
      ∃ y : List Report,
        y.length ≤ 1 ∧
        Queued s t (y ++ raisedReportOf .bagFull (some (.number t.fill.debounced)) s t :: bagReportsOf s t)))

/-- Limits of the fill scanner (R108 to R110) and the post-evacuation check (R155), by the four limit commands, which act
where the count stands one short of its limit: the model's choice (log entry 7). In the dock a raise of BAG_FULL stops the
fan and ends a live cycle (R27, R173). -/
def Obligations.FillLimitsReportAndRaise : Prop :=
  (∀ (s : State) (c : Nat),
    s.fill.candidate = some c →
    s.role = .handle → s.power.state = .active → s.power.standbyPending = false → ReportsFit s →
    2 ≤ s.fill.candCount → (s.conds.map (·.kind)).Nodup →
    Completes (.debounceAccepted) s (fun t =>
      t.fill = { s.fill with debounced := c, candidate := none, candCount := 0 } ∧
      condActive t .binFull = decide (s.sensingCfg.full ≤ c) ∧
      Queued s t ({
        kind := .binLevel, sub := 0, time := t.partTime,
        data := [byteOf s.fill.debounced, byteOf c, byteOf s.fill.rawLevel] } ::
          fullReportsOf .binFull c s.sensingCfg.full s t) ∧
      ChangesOnly [.fill, .conds, .reports, .lost] s t)) ∧
  (∀ (s : State) (c : Nat),
    s.fill.candidate = some c →
    s.role = .dock → s.power.state = .active → s.power.standbyPending = false → ReportsFit s →
    2 ≤ s.fill.candCount → (s.conds.map (·.kind)).Nodup →
    (evacLive s.cycle.state = false ∨ c < s.sensingCfg.full ∨ condActive s .bagFull = true) →
    Completes (.debounceAccepted) s (fun t =>
      t.fill = { s.fill with debounced := c, candidate := none, candCount := 0 } ∧
      condActive t .bagFull = decide (s.sensingCfg.full ≤ c) ∧
      Queued s t ({
        kind := .binLevel, sub := 0, time := t.partTime,
        data := [byteOf s.fill.debounced, byteOf c, byteOf s.fill.rawLevel] } ::
          fullReportsOf .bagFull c s.sensingCfg.full s t) ∧
      t.output = { s.output with status := t.output.status } ∧
      ChangesOnly [.fill, .conds, .output, .reports, .lost] s t)) ∧
  (∀ (s : State) (c : Nat),
    s.fill.candidate = some c →
    s.role = .dock → s.power.state = .active → s.power.standbyPending = false → ReportsFit s →
    2 ≤ s.fill.candCount → evacLive s.cycle.state = true → s.sensingCfg.full ≤ c → condActive s .bagFull = false →
    Completes (.debounceAccepted) s (fun t =>
      t.fill.debounced = c ∧ t.fill.candidate = none ∧ t.fill.candCount = 0 ∧
      Raised .bagFull (some (.number c)) s t ∧
      EndedByBag s t ∧
      (s.drive.state.running = false → t.dirt = s.dirt) ∧
      Queued s t ({
        kind := .binLevel, sub := 0, time := t.partTime,
        data := [byteOf s.fill.debounced, byteOf c, byteOf s.fill.rawLevel] } ::
          raisedReportOf .bagFull (some (.number c)) s t :: bagReportsOf s t) ∧
      ChangesOnly [.fill, .conds, .drive, .motor, .dirt, .output, .cycle, .reports, .lost] s t)) ∧
  (∀ (s : State),
    Calm s → ReportsFit s → condActive s .binAbsent = false →
    ((s.fill.electrodes[7]).baseline * 250).tdiv 1000 ≤
      ((s.fill.electrodes[7]).raw - (s.fill.electrodes[7]).baseline) →
    1 ≤ s.fill.absent →
    Completes (.binAbsentLimit) s (fun t =>
      RaisedCalmly .binAbsent (some (.number ((s.fill.electrodes[7]).raw - (s.fill.electrodes[7]).baseline))) s t ∧
      t.fill = { s.fill with absent := 0 } ∧
      ChangesOnly [.fill, .drive, .conds, .reports, .lost] s t)) ∧
  (∀ (s : State),
    s.role = .handle → s.power.state = .active → ReportsFit s → condActive s .binAbsent = true →
    ¬ ((s.fill.electrodes[7]).baseline * 250).tdiv 1000 ≤
      ((s.fill.electrodes[7]).raw - (s.fill.electrodes[7]).baseline) →
    1 ≤ s.fill.present →
    Completes (.binPresentLimit) s (fun t =>
      Ended .binAbsent s t ∧
      Queued s t [endedReportOf .binAbsent s t] ∧
      t.fill = { s.fill with present := 0 } ∧
      ChangesOnly [.fill, .conds, .reports, .lost] s t)) ∧
  (∀ (s : State) (k : Nat),
    s.link.postCount = some k →
    s.power.state = .active → s.power.standbyPending = false → s.role = .handle → ReportsFit s → 2 ≤ k →
    s.sensingCfg.full ≤ s.fill.debounced → condActive s .evacuationIneffective = false →
    Completes (.postEvacCheck) s (fun t =>
      t.link = { s.link with postCount := none } ∧
      RaisedCalmly .evacuationIneffective (some (.number s.fill.debounced)) s t ∧
      ChangesOnly [.link, .conds, .reports, .lost] s t)) ∧
  (∀ (s : State) (k : Nat),
    s.link.postCount = some k →
    s.power.state = .active → 2 ≤ k → s.fill.debounced < s.sensingCfg.full →
    Completes (.postEvacCheck) s (fun t =>
      t.link = { s.link with postCount := none } ∧
      ChangesOnly [.link] s t))

/-- The requests of the sensing block (R100, R112 to R114). A full level lowered to the dock's level raises BAG_FULL, which
ends a live cycle (R27, R109, R173). The rate in HALT SENSING's DIRT_GRADE report is log entry 27, and
the scan that a REBASE_BIN waits for log entry 25. -/
def Obligations.SensingRequestsAreTaken : Prop :=
  (∀ (s : State) (tag a r : Byte) (p q w : BitVec 16) (dr ch ck cw : Byte) (cv : BitVec 16) (fu : Byte),
    let cfg := storedSensingCfg a r p q w dr ch ck cw cv fu
    Listening s → (cfg.t2 ≤ cfg.t1 ∨ cfg.t3 ≤ cfg.t2) →
    Completes (.configureSensing tag a r p q w dr ch ck cw cv fu) s (fun t =>
      Answered s t 0x24 tag .invalid [] [])) ∧
  (∀ (s : State) (tag a r : Byte) (p q w : BitVec 16) (dr ch ck cw : Byte) (cv : BitVec 16) (fu : Byte),
    let cfg := storedSensingCfg a r p q w dr ch ck cw cv fu
    let bytes := sensingCfgPayload cfg
    let given := [a, r] ++ bytes2 p ++ bytes2 q ++ bytes2 w ++ [dr, ch, ck, cw] ++ bytes2 cv ++ [fu]
    Listening s → (s.role = .handle ∨ cfg.full = s.sensingCfg.full) → cfg.t1 < cfg.t2 ∧ cfg.t2 < cfg.t3 →
    Completes (.configureSensing tag a r p q w dr ch ck cw cv fu) s (fun t =>
      Replied (received s) t 0x24 tag (if bytes = given then .ok else .okClamped) bytes ∧
      SensingStored cfg s t ∧
      (cfg.full ≠ s.sensingCfg.full → condActive t .binFull = decide (cfg.full ≤ s.fill.debounced) ∧
        (ReportsFit s → Queued (received s) t (fullReportsOf .binFull s.fill.debounced cfg.full (received s) t))) ∧
      (cfg.full = s.sensingCfg.full → t.conds = (received s).conds ∧ t.reports = (received s).reports) ∧
      ChangesOnly [.port, .free, .sensingCfg, .fill, .dirt, .conds, .reports, .lost] (received s) t)) ∧
  (∀ (s : State) (tag a r : Byte) (p q w : BitVec 16) (dr ch ck cw : Byte) (cv : BitVec 16) (fu : Byte),
    let cfg := storedSensingCfg a r p q w dr ch ck cw cv fu
    let bytes := sensingCfgPayload cfg
    let given := [a, r] ++ bytes2 p ++ bytes2 q ++ bytes2 w ++ [dr, ch, ck, cw] ++ bytes2 cv ++ [fu]
    Listening s → s.role = .dock → cfg.full ≠ s.sensingCfg.full → cfg.t1 < cfg.t2 ∧ cfg.t2 < cfg.t3 →
    (evacLive s.cycle.state = false ∨ s.fill.debounced < cfg.full ∨ condActive s .bagFull = true) →
    Completes (.configureSensing tag a r p q w dr ch ck cw cv fu) s (fun t =>
      Replied (received s) t 0x24 tag (if bytes = given then .ok else .okClamped) bytes ∧
      SensingStored cfg s t ∧
      condActive t .bagFull = decide (cfg.full ≤ s.fill.debounced) ∧
      (ReportsFit s → Queued (received s) t (fullReportsOf .bagFull s.fill.debounced cfg.full (received s) t)) ∧
      ChangesOnly [.port, .free, .sensingCfg, .fill, .dirt, .conds, .output, .reports, .lost] (received s) t)) ∧
  (∀ (s : State) (tag a r : Byte) (p q w : BitVec 16) (dr ch ck cw : Byte) (cv : BitVec 16) (fu : Byte),
    let cfg := storedSensingCfg a r p q w dr ch ck cw cv fu
    let bytes := sensingCfgPayload cfg
    let given := [a, r] ++ bytes2 p ++ bytes2 q ++ bytes2 w ++ [dr, ch, ck, cw] ++ bytes2 cv ++ [fu]
    Listening s → s.role = .dock → cfg.full ≠ s.sensingCfg.full → cfg.t1 < cfg.t2 ∧ cfg.t2 < cfg.t3 →
    evacLive s.cycle.state = true → cfg.full ≤ s.fill.debounced → condActive s .bagFull = false →
    Completes (.configureSensing tag a r p q w dr ch ck cw cv fu) s (fun t =>
      Replied (received s) t 0x24 tag (if bytes = given then .ok else .okClamped) bytes ∧
      t.sensingCfg = cfg ∧
      Raised .bagFull (some (.number s.fill.debounced)) (received s) t ∧
      EndedByBag (received s) t ∧
      (ReportsFit s →
        Queued (received s) t
          (raisedReportOf .bagFull (some (.number s.fill.debounced)) (received s) t :: bagReportsOf (received s) t)) ∧
      ChangesOnly [.port, .free, .sensingCfg, .fill, .dirt, .conds, .drive, .motor, .output, .cycle, .reports, .lost]
        (received s) t)) ∧
  (∀ (s : State) (tag : Byte),
    Listening s → s.drive.state = .stopped →
    Completes (.rebaseBin tag) s (fun t =>
      Answered s t 0x25 tag .ok [] [.fill] ∧
      t.fill = { s.fill with rebasePending := true, scan := s.fill.scan.map (fun c => { c with rebase := false }) })) ∧
  (∀ (s : State) (tag : Byte),
    Listening s → s.drive.state ≠ .stopped →
    Completes (.rebaseBin tag) s (fun t =>
      Answered s t 0x25 tag .busy [] [])) ∧
  (∀ (s : State) (tag : Byte),
    Listening s → s.role = .handle → ReportsFit s →
    Completes (.haltSensing tag) s (fun t =>
      Answered s t 0x12 tag .ok [] [.fill, .dirt, .reports, .lost] ∧
      t.fill = { s.fill with scan := none } ∧
      t.dirt = { s.dirt with
        ring := [], rise := 0, fall := 0, grade := 0,
        window := if s.drive.state = .regulate then some 0 else s.dirt.window,
        windowTimer := if s.drive.state = .regulate then some (t.now + 50000000) else s.dirt.windowTimer } ∧
      Queued (received s) t
        (if 0 < s.dirt.grade then
          [{ kind := .dirtGrade, sub := 0, time := t.partTime, data := [byteOf s.dirt.grade, 0] ++ le4 s.dirt.rate }]
          else []))) ∧
  (∀ (s : State) (tag : Byte),
    Listening s → s.role = .dock →
    Completes (.haltSensing tag) s (fun t =>
      Answered s t 0x12 tag .ok [] [.fill] ∧
      t.fill = { s.fill with scan := none }))

/-- The completion of a conversion (R118 to R120, R124), with the arbiter's choice of the next (R123): of the waiting entries
the oldest of the most urgent class leaves the queue and starts. Entries held in standby wait (R128, log entry 13). -/
def Obligations.ConversionCompletionWritesTheRecord : Prop :=
  (∀ (s : State) (codes : Vector (BitVec 12) 8) (f : Conversion),
    let raw := ((codes.toList.take f.count).map BitVec.toNat).sum / f.count
    let r := s.chan f.chan
    s.seq.inFlight = some f →
    s.fastUp = true →
    Completes (.conversionCompletion codes) s (fun t =>
      t.now = s.atDeadline f.endsAt ∧
      t.chan f.chan = { r with
        value := (t.chan f.chan).value, raw := raw,
        mark := if f.chan = .packT ∨ f.chan = .bridgeT then (if 4050 ≤ raw then .openCircuit else if raw ≤ 40 then
          .short else .none) else .none, time := t.partTime, valid := true } ∧
      (∀ k o : Int, r.cal = .linear k o → (t.chan f.chan).mark = .none → (t.chan f.chan).value = max f.chan.range.1
        (min f.chan.range.2 (o + ((raw : Int) * k).tdiv 65536))) ∧
      ((t.chan f.chan).mark ≠ .none → (t.chan f.chan).value = r.value) ∧
      ((t.chan f.chan).mark = .none → (t.chan f.chan).value = calibrate f.chan r.cal raw) ∧
      (∀ c : Chan, c ≠ f.chan → t.chan c = s.chan c))) ∧
  (∀ (s : State) (codes : Vector (BitVec 12) 8) (f : Conversion),
    s.seq.inFlight = some f →
    s.fastUp = true →
    f.set = { drive := false, output := false, pack := false, charge := false, dock := false, port := true } →
    ReportsFit s →
    Completes (.conversionCompletion codes) s (fun t =>
      ((t.chan f.chan).mark = .none → Watched (.chan f.chan) (t.chan f.chan).value s t) ∧
      ((t.chan f.chan).mark ≠ .none → t.watches = s.watches) ∧
      Queued s t ((if (t.chan f.chan).mark = .none then firedReports (.chan f.chan) (t.chan f.chan).value s t else [])
        ++ [measurementOf f t]) ∧
      ChangesOnly [.now, .power, .seq, .watches, .reports, .lost] s t)) ∧
  (∀ (s : State) (codes : Vector (BitVec 12) 8) (f : Conversion),
    s.seq.inFlight = some f →
    s.fastUp = true → f.chan = .dockV →
    f.set = { drive := false, output := false, pack := false, charge := false, dock := true, port := false } →
    Completes (.conversionCompletion codes) s (fun t =>
      t.link = { s.link with contactMv := (t.chan .dockV).value } ∧
      ChangesOnly [.now, .power, .seq, .watches, .reports, .lost, .link] s t)) ∧
  (∀ (s : State) (codes : Vector (BitVec 12) 8) (f : Conversion) (i : Nat) (e : Entry),
    s.seq.inFlight = some f →
    s.seq.queue[i]? = some e →
    s.fastUp = true → (s.power.state = .active ∨ s.seq.held = false) → SweepGoesOn f s → Chosen i e s →
    Completes (.conversionCompletion codes) s (fun t => ConversionStarted i e s t)) ∧
  (∀ (s : State) (codes : Vector (BitVec 12) 8) (f : Conversion),
    s.seq.inFlight = some f →
    s.fastUp = true → SweepGoesOn f s →
    (s.seq.queue = [] ∨ (s.power.state = .standby ∧ s.seq.held = true)) →
    Completes (.conversionCompletion codes) s (fun t =>
      t.seq.inFlight = none ∧ t.seq.queue = s.seq.queue)) ∧
  (∀ (s : State) (codes : Vector (BitVec 12) 8) (f : Conversion),
    s.seq.inFlight = some f →
    s.fastUp = true →
    Completes (.conversionCompletion codes) s (fun t =>
      (t.power.state = .active ∨ t.seq.held = false) → t.seq.inFlight = none → t.seq.queue = [])) ∧
  (∀ (s : State) (i : Nat) (e : Entry),
    s.seq.queue[i]? = some e →
    s.seq.inFlight = none → s.fastUp = true → (s.power.state = .active ∨ s.seq.held = false) → Chosen i e s →
    ConversionStarted i e s (arbiter s) ∧
    ChangesOnly [.seq] s (arbiter s))

/-- The host's requests to the sequencer and the placement of requests (R115, R117, R121 to R123, R126). -/
def Obligations.SequencerRequestsAreAnswered : Prop :=
  (∀ (s : State) (tag n a b c d e : Byte),
    Listening s → (n.toNat < 1 ∨ 15 < n.toNat) →
    Completes (.configureChannel tag n a b c d e) s (fun t =>
      Answered s t 0x26 tag .invalid [] [])) ∧
  (∀ (s : State) (x : Chan) (tag a b c d e : Byte),
    Listening s → x.inRole s.role = false →
    Completes (.configureChannel tag (BitVec.ofNat 8 x.number) a b c d e) s (fun t =>
      Answered s t 0x26 tag .wrongRole [] [])) ∧
  (∀ (s : State) (tag n : Byte),
    Listening s → (n.toNat < 1 ∨ 15 < n.toNat) →
    Completes (.measure tag n) s (fun t =>
      Answered s t 0x30 tag .invalid [] [])) ∧
  (∀ (s : State) (x : Chan) (tag : Byte),
    Listening s → x.inRole s.role = false →
    Completes (.measure tag (BitVec.ofNat 8 x.number)) s (fun t =>
      Answered s t 0x30 tag .wrongRole [] [])) ∧
  (∀ (s : State) (tag n a : Byte),
    Listening s → (n.toNat < 1 ∨ 15 < n.toNat) →
    Completes (.measureFresh tag n a) s (fun t =>
      Answered s t 0x31 tag .invalid [] [])) ∧
  (∀ (s : State) (x : Chan) (tag a : Byte),
    Listening s → x.inRole s.role = false →
    Completes (.measureFresh tag (BitVec.ofNat 8 x.number) a) s (fun t =>
      Answered s t 0x31 tag .wrongRole [] [])) ∧
  (∀ (s : State) (x : Chan) (tag a b c d e : Byte),
    let k :=
      ({ clock := min 3 a.toNat, pre := min 3 b.toNat, sample := min 63 c.toNat, gap := min 31 d.toNat } : Codes)
    let m := if 8 ≤ e.toNat then 8 else if 4 ≤ e.toNat then 4 else if 2 ≤ e.toNat then 2 else 1
    Listening s → x.inRole s.role = true →
    Completes (.configureChannel tag (BitVec.ofNat 8 x.number) a b c d e) s (fun t =>
      Answered s t 0x26 tag (if a.toNat = k.clock ∧ b.toNat = k.pre ∧ c.toNat = k.sample ∧ d.toNat = k.gap ∧ e.toNat =
        m then .ok else .okClamped) [byteOf x.number, byteOf k.clock, byteOf k.pre, byteOf k.sample, byteOf k.gap,
        byteOf m] [.seq] ∧
      t.chan x = { s.chan x with codes := k, averaging := m } ∧
      (∀ y : Chan, y ≠ x → t.chan y = s.chan y) ∧
      t.seq.queue = s.seq.queue ∧ t.seq.inFlight = s.seq.inFlight)) ∧
  (∀ (s : State) (x : Chan) (tag : Byte),
    let r := s.chan x
    Listening s → x.inRole s.role = true →
    Completes (.measure tag (BitVec.ofNat 8 x.number)) s (fun t =>
      Answered s t 0x30 tag .ok (le4 r.value ++ le2 r.raw ++ [byteOf r.mark.code, boolByte r.valid] ++ (if r.valid
        then le4 (s.partTime - r.time).toNat else [0xFF, 0xFF, 0xFF, 0xFF])) [])) ∧
  (∀ (s : State) (x : Chan) (tag a : Byte),
    let n := if a =
      0 then (s.chan x).averaging else if 8 ≤ a.toNat then 8 else if 4 ≤ a.toNat then 4 else if 2 ≤ a.toNat then 2
        else 1
    let st := if a = 0 ∨ a = 1 ∨ a = 2 ∨ a = 4 ∨ a = 8 then Status.ok else Status.okClamped
    Listening s → x.inRole s.role = true → s.seq.inFlight.isSome = true → (∃ e ∈ s.seq.queue, e.chan = x) →
    Completes (.measureFresh tag (BitVec.ofNat 8 x.number) a) s (fun t =>
      Answered s t 0x31 tag st [] [.seq] ∧
      t.seq = { s.seq with
        queue := s.seq.queue.map (fun e => if e.chan = x then
          { e with set := { e.set with port := true }, cls := min e.cls 2, count := max e.count n } else e) })) ∧
  (∀ (s : State) (x : Chan) (tag a : Byte),
    let n := if a =
      0 then (s.chan x).averaging else if 8 ≤ a.toNat then 8 else if 4 ≤ a.toNat then 4 else if 2 ≤ a.toNat then 2
        else 1
    let st := if a = 0 ∨ a = 1 ∨ a = 2 ∨ a = 4 ∨ a = 8 then Status.ok else Status.okClamped
    Listening s → x.inRole s.role = true → s.seq.inFlight.isSome = true → (∀ e ∈ s.seq.queue, e.chan ≠ x) →
    s.seq.queue.length < 12 →
    Completes (.measureFresh tag (BitVec.ofNat 8 x.number) a) s (fun t =>
      Answered s t 0x31 tag st [] [.seq] ∧
      t.seq = { s.seq with
        queue := s.seq.queue ++ [{
          chan := x,
          set := { drive := false, output := false, pack := false, charge := false, dock := false, port := true },
          cls := 2, count := n }] })) ∧
  (∀ (s : State) (x : Chan) (tag a : Byte),
    let n := if a =
      0 then (s.chan x).averaging else if 8 ≤ a.toNat then 8 else if 4 ≤ a.toNat then 4 else if 2 ≤ a.toNat then 2
        else 1
    let st := if a = 0 ∨ a = 1 ∨ a = 2 ∨ a = 4 ∨ a = 8 then Status.ok else Status.okClamped
    let k := (s.chan x).codes
    Listening s → x.inRole s.role = true → s.seq.inFlight = none → s.seq.queue = [] →
    Completes (.measureFresh tag (BitVec.ofNat 8 x.number) a) s (fun t =>
      Answered s t 0x31 tag st [] [.seq] ∧
      t.seq = { s.seq with
        inFlight := some {
          chan := x,
          set := { drive := false, output := false, pack := false, charge := false, dock := false, port := true },
          count := n, codes := k,
          endsAt := t.now + conversionTime k n } })) ∧
  (∀ (s : State) (x : Chan) (tag a : Byte),
    Listening s → x.inRole s.role = true → (∀ e ∈ s.seq.queue, e.chan ≠ x) → 12 ≤ s.seq.queue.length →
    Completes (.measureFresh tag (BitVec.ofNat 8 x.number) a) s (fun t =>
      Answered s t 0x31 tag .queueFull [] [])) ∧
  (∀ (s : State) (x : Chan) (e : Entry),
    s.seq.queue.reverse.find? (fun e => decide (e.set =
      { drive := false, output := false, pack := false, charge := false, dock := false, port := true })) = some e →
    s.seq.inFlight.isSome = true → (∀ e ∈ s.seq.queue, e.chan ≠ x) → 12 ≤ s.seq.queue.length → ReportsFit s →
    (post .drive s x).seq = { s.seq with
      queue :=
        (s.seq.queue.reverse.erase e).reverse ++
          [{
            chan := x,
            set := { drive := true, output := false, pack := false, charge := false, dock := false, port := false },
            cls := 0, count := (s.chan x).averaging }] } ∧
    Queued s (post .drive s x)
      [{
        kind := .measurement, sub := 1, time := s.partTime,
        data := [byteOf e.chan.number, 0, 0, 0] ++ le2 (16384 * (if 8 ≤ e.count then 3 else if 4 ≤ e.count then 2 else
          if 2 ≤ e.count then 1 else 0) : Nat) }] ∧
    ChangesOnly [.seq, .reports, .lost] s (post .drive s x))

/-- Raises and ends as the condition list takes them (R131, R132), on the three operations that every raiser calls: a raise,
a raise within a sweep's completion, whose charge side waits for the charge controller (R54), and an end. A raise's report
comes first, ahead of the WAKE of a standby that it cancels (R191) and of the reports of its reactions (R135). -/
def Obligations.ListTakesRaisesAndEnds : Prop :=
  (∀ (s : State) (k : CondKind) (d : Option Detail),
    condActive s k = false →
    Raised k d s (raise k d s) ∧
    (raise k d s).power.standbyPending = false ∧
    (ReportsFit s →
      ∃ rest : List Report,
        Queued s (raise k d s) (raisedReportOf k d s (raise k d s) :: cancelledReportsOf s (raise k d s) ++ rest))) ∧
  (∀ (s : State) (k : CondKind) (d : Option Detail),
    condActive s k = true →
    raise k d s = s) ∧
  (∀ (s : State) (k : CondKind) (d : Option Detail),
    condActive s k = false →
    Raised k d s (raiseInSweep k d s) ∧
    (raiseInSweep k d s).power = { s.power with standbyPending := false } ∧
    (raiseInSweep k d s).session = s.session ∧
    (ReportsFit s →
      ∃ rest : List Report,
        Queued s (raiseInSweep k d s)
          (raisedReportOf k d s (raiseInSweep k d s) :: cancelledReportsOf s (raiseInSweep k d s) ++ rest))) ∧
  (∀ (s : State) (k : CondKind) (d : Option Detail),
    condActive s k = true →
    raiseInSweep k d s = s) ∧
  (∀ (s : State) (k : CondKind),
    condActive s k = true → ReportsFit s →
    Ended k s (endCond k s) ∧ Queued s (endCond k s) [endedReportOf k s (endCond k s)]) ∧
  (∀ (s : State) (k : CondKind),
    condActive s k = false →
    endCond k s = s)

/-- Acknowledgement (R136) and the reading of the list (R137). -/
def Obligations.ConditionsAreReadAndAcknowledged : Prop :=
  (∀ (s : State) (tag n occ : Byte),
    Listening s → (n = 0 ∨ 24 < n.toNat) →
    Completes (.ackCondition tag n occ) s (fun t =>
      Answered s t 0x41 tag .invalid [] [])) ∧
  (∀ (s : State) (tag : Byte) (k : CondKind) (occ : Byte),
    Listening s → condOf (received s) k = none →
    Completes (.ackCondition tag (BitVec.ofNat 8 k.code) occ) s (fun t =>
      Answered s t 0x41 tag .notFound [0xFF, 0] [])) ∧
  (∀ (s : State) (tag : Byte) (k : CondKind) (occ : Byte) (r : CondRec),
    condOf (received s) k = some r →
    Listening s → r.active = true →
    Completes (.ackCondition tag (BitVec.ofNat 8 k.code) occ) s (fun t =>
      Answered s t 0x41 tag .stillActive [0, byteOf r.occurrences] [])) ∧
  (∀ (s : State) (tag : Byte) (k : CondKind) (occ : Byte) (r : CondRec),
    condOf (received s) k = some r →
    Listening s → r.active = false → r.occurrences ≠ occ.toNat →
    Completes (.ackCondition tag (BitVec.ofNat 8 k.code) occ) s (fun t =>
      Answered s t 0x41 tag .stale [1, byteOf r.occurrences] [])) ∧
  (∀ (s : State) (tag : Byte) (k : CondKind) (occ : Byte) (r : CondRec),
    condOf (received s) k = some r →
    Listening s → r.active = false → r.occurrences = occ.toNat →
    Completes (.ackCondition tag (BitVec.ofNat 8 k.code) occ) s (fun t =>
      Replied (received s) t 0x41 tag .ok [1, occ] ∧
      t.conds = (received s).conds.filter (fun x => decide (x.kind ≠ k)) ∧
      (k ≠ .chargeFailed ∨ s.session.phase ≠ .failed ∨ s.link.docked = false → t.output =
        { s.output with status := t.output.status } ∧ ChangesOnly [.port, .free, .conds, .output] (received s) t) ∧
      (k = .chargeFailed → s.session.phase = .failed → s.link.docked = true → PhaseMoved .qualify none s t ∧ t.output
        = { s.output with status := t.output.status } ∧ ChangesOnly (phaseBlocks ++ [.port, .free, .conds, .output])
        (received s) t) ∧
      t.output.status =
        (if s.role = .handle then s.output.status else if outputInhibited t then .fault else if s.output.permission =
          false then .off else if s.output.iApp < s.output.iRequested then .limited else .on))) ∧
  (∀ (s : State) (tag p : Byte),
    let l := (received s).conds
    Listening s →
    Completes (.getConditions tag p) s (fun t =>
      Answered s t 0x40 tag .ok (byteOf l.length :: ((l.drop p.toNat).take 3).flatMap (fun r => [byteOf r.kind.code,
        if r.active then 0 else 1, byteOf r.occurrences, if r.detail = none then 0 else 1] ++ timeBytes r.first ++
        timeBytes r.last ++ detailField r.detail)) []))

/-- The watch table's requests (R141). -/
def Obligations.WatchesAreSetAndCleared : Prop :=
  (∀ (s : State) (tag n qc d : Byte) (th : BitVec 24) (hy : BitVec 16),
    Listening s → (7 < n.toNat ∨ qc = 0 ∨ 21 < qc.toNat ∨ 1 < d.toNat) →
    Completes (.setWatch tag n qc d th hy) s (fun t =>
      Answered s t 0x42 tag .invalid [] [])) ∧
  (∀ (s : State) (tag n : Byte) (q : Quantity) (d : Byte) (th : BitVec 24) (hy : BitVec 16),
    Listening s → n.toNat ≤ 7 ∧ d.toNat ≤ 1 →
    (¬ ((q = .minCell ∨ q = .maxCell ∨ q = .soc ∨ q = .dirtRate → s.role = .handle) ∧ (∀ c : Chan, q = .chan c →
      c.inRole s.role = true))) →
    Completes (.setWatch tag n (BitVec.ofNat 8 q.code) d th hy) s (fun t =>
      Answered s t 0x42 tag .wrongRole [] [])) ∧
  (∀ (s : State) (tag n : Byte) (q : Quantity) (d : Byte) (th : BitVec 24) (hy : BitVec 16),
    Listening s → n.toNat ≤ 7 ∧ d.toNat ≤ 1 →
    (q = .minCell ∨ q = .maxCell ∨ q = .soc ∨ q = .dirtRate → s.role = .handle) ∧
    (∀ c : Chan, q = .chan c → c.inRole s.role = true) →
    Completes (.setWatch tag n (BitVec.ofNat 8 q.code) d th hy) s (fun t =>
      Answered s t 0x42 tag (if hy.toInt < 0 then .okClamped else .ok) [] [.watches] ∧
      (∀ i : Fin 8, t.watches[i] = (if i.val = n.toNat then some {
        quantity := q, rising := decide (d = 0), threshold := th.toInt, hysteresis := max 0 hy.toInt, fired := false }
        else s.watches[i])))) ∧
  (∀ (s : State) (i : Fin 8) (q : Quantity) (v : Int) (w : Watch),
    s.watches[i] = some w → w.quantity = q → w.rising = true → w.fired = false → w.threshold ≤ v →
    (publish q v s).watches[i] = some { w with fired := true }) ∧
  (∀ (s : State) (tag n : Byte),
    Listening s → 7 < n.toNat →
    Completes (.clearWatch tag n) s (fun t =>
      Answered s t 0x43 tag .invalid [] [])) ∧
  (∀ (s : State) (tag n : Byte),
    Listening s → n.toNat ≤ 7 →
    Completes (.clearWatch tag n) s (fun t =>
      Answered s t 0x43 tag .ok [] [.watches] ∧
      (∀ i : Fin 8, t.watches[i] = (if i.val = n.toNat then none else s.watches[i])))) ∧
  (∀ (s : State) (tag : Byte),
    let b := fun i : Fin 8 => slotBytes s.watches[i] (Config.slotSpare (s.free + i.val))
    Listening s →
    Completes (.getWatches tag) s (fun t =>
      Answered s t 0x44 tag .ok (b 0 ++ b 1 ++ b 2 ++ b 3 ++ b 4 ++ b 5 ++ b 6 ++ b 7) [])) ∧
  (∀ (s : State) (w : Watch) (x : Byte),
    slotBytes none x = [0, 0, 0, 0, 0, 0, 0] ∧
    (slotBytes (some w) x).drop 1 = byteOf w.quantity.code :: (le3 w.threshold ++ le2 w.hysteresis) ∧
    byteAt (slotBytes (some w) x) 0 &&& 7 = 1 + (if w.rising then 0 else 2) + (if w.fired then 4 else 0))

/-- Publications and watches (R140). -/
def Obligations.PublicationTestsEverySlot : Prop :=
  (∀ (s : State) (i : Fin 8) (w : Watch) (q : Quantity) (v : Int),
    s.watches[i] = some w →
    (publish q v s).watches[i] =
      (if w.quantity = q ∧ w.fired = false ∧ (if w.rising then w.threshold ≤ v else v ≤ w.threshold) then
         some { w with fired := true }
       else if w.quantity = q ∧ w.fired = true ∧
               (if w.rising then v ≤ w.threshold - w.hysteresis else w.threshold + w.hysteresis ≤ v) then
              some { w with fired := false }
            else some w)) ∧
  (∀ (s : State) (i : Fin 8) (q : Quantity) (v : Int),
    s.watches[i] = none →
    (publish q v s).watches[i] = none) ∧
  (∀ (s : State) (q : Quantity) (v : Int) (w : Watch),
    ReportsFit s →
    Queued s (publish q v s)
      (([0, 1, 2, 3, 4, 5, 6, 7] : List (Fin 8)).filterMap
        (fun i =>
          (s.watches[i]).bind
            (fun w => if w.quantity = q ∧ w.fired = false ∧
             (if w.rising then w.threshold ≤ v else v ≤ w.threshold) then some
               { kind := .watchFired, sub := i.val, time := s.partTime, data := byteOf q.code :: le4 v } else none)))
               ∧ ChangesOnly [.watches, .reports, .lost] s (publish q v s))

/-- Docking detection and the DOCKED event (R143, R145, R25). That the DOCKED report already carries IDENTIFYING is log
entry 27, and that before start-up only the pin changes log entry 10. -/
def Obligations.DockingIsQualified : Prop :=
  (∀ (s : State) (h : Bool),
    (s.up = false ∨ s.role = .dock) →
    Completes (.dockComparatorChange h) s (fun t =>
      t.pins = { s.pins with contact := h } ∧
      ChangesOnly [.pins] s t)) ∧
  (∀ (s : State),
    s.up = true → s.role = .handle →
    Completes (.dockComparatorChange s.link.docked) s (fun t =>
      t.pins = { s.pins with contact := s.link.docked } ∧
      t.link = { s.link with candidate := none } ∧
      ChangesOnly [.pins, .link] s t)) ∧
  (∀ (s : State),
    s.up = true → s.role = .handle →
    Completes (.dockComparatorChange (!s.link.docked)) s (fun t =>
      t.pins = { s.pins with contact := !s.link.docked } ∧
      t.link = { s.link with
        candidate := some (s.link.candidate.getD (s.now + (if s.link.docked then 50000000 else 200000000))) } ∧
      ChangesOnly [.pins, .link] s t)) ∧
  (∀ (s : State) (d : Nat),
    s.link.candidate = some d →
    s.role = .handle → s.power.state = .active → s.power.standbyPending = false → s.link.docked = false →
    s.drive.state.running = false → ReportsFit s →
    Completes (.dockedQualified) s (fun t =>
      t.now = s.atDeadline d ∧
      t.link = { s.link with
        docked := true, candidate := none, dockedTime := t.partTime, state := .identifying, failures := 0,
        pend := { s.link.pend with ident := true } } ∧
      t.drive =
        { s.drive with armed := false, pendingStart := false, trigOn := s.drive.trigOn && (s.driveCfg.mode == .hold) }
        ∧
      Queued s t [{ kind := .dock, sub := 0, time := t.partTime, data := [1] },
        { kind := .dock, sub := 2, time := t.partTime, data := [1] }] ∧
      ChangesOnly [.now, .link, .drive, .reports, .lost] s t)) ∧
  (∀ (s : State) (d : Nat),
    s.link.candidate = some d →
    s.role = .handle → s.power.state = .active → s.power.standbyPending = false → s.link.docked = false →
    s.drive.state.running = true → ReportsFit s →
    Completes (.dockedQualified) s (fun t =>
      t.now = s.atDeadline d ∧
      t.link = { s.link with
        docked := true, candidate := none, dockedTime := t.partTime, state := .identifying, failures := 0,
        pend := { s.link.pend with ident := true } } ∧
      StopMade .docked s t ∧
      Queued s t ([{ kind := .dock, sub := 0, time := t.partTime, data := [1] },
        { kind := .dock, sub := 2, time := t.partTime, data := [1] }] ++ stopReportsOf .docked s t) ∧
      ChangesOnly [.now, .link, .drive, .motor, .dirt, .reports, .lost] s t))

/-- The UNDOCKED event (R146) and the end of the session (R73). The order of its reports, without a SUSPENDED in between, is
log entry 20, and the state that the UNDOCKED report carries log entry 27. -/
def Obligations.UndockingClearsTheLink : Prop :=
  (∀ (s : State) (d : Nat),
    s.link.candidate = some d →
    s.role = .handle → s.power.state = .active → s.power.standbyPending = false → s.link.docked = true →
    NoPortAlone s → ReportsFit s →
    Completes (.undockedQualified) s (fun t =>
      t.now = s.atDeadline d ∧
      t.link = { s.link with
        docked := false, candidate := none, state := .absent, failures := 0, exchange := none,
        pend := { ident := false, setpoint := false, evacStart := false, evacQuery := false, evacStop := false },
        setpointPoll := none, queryPoll := none, backoff := none, faultRetry := none, evac := .none,
        stopPending := s.link.stopPending && (s.link.evac == .none), readopt := false,
        lastEvacEnd := if s.link.evac = .none then s.link.lastEvacEnd else some t.partTime, postCount := none } ∧
      t.session = { s.session with
        phase := .none, reason := if s.session.phase = .none then s.session.reason else none,
        phaseEntry := if s.session.phase = .none then s.session.phaseEntry else t.partTime, request := 0,
        switchClosed := false, balance := [], precharge := none, topBalance := none, limit := none, dockTimer := none,
        restart := none, termination := 0 } ∧
      t.conds =
        s.conds.map (fun r => if r.kind = .dockLinkFault ∨ r.kind = .chargeTemp then { r with active := false } else
          r) ∧
      Queued s t ((if condActive s .dockLinkFault then [endedReportOf .dockLinkFault s t] else []) ++ (if s.link.evac
        = .none then [] else [{ kind := .evacuation, sub := 6, time := t.partTime, data := [0xFF, 0] }]) ++
        [{ kind := .dock, sub := 1, time := t.partTime, data := [0] },
        { kind := .dock, sub := 2, time := t.partTime, data := [0] }] ++ (if s.session.phase = .none then [] else
        [phaseReportOf t]) ++ (if condActive s .chargeTemp then [endedReportOf .chargeTemp s t] else [])) ∧
      ChangesOnly [.now, .link, .session, .conds, .fill, .monitor, .power, .seq, .reports, .lost] s t))

/-- The start of an exchange (R147, R149, R151), and the four timers of the dock link (R148, R149). The operand for the idle
time, the bytes' times and the end of the request are log entry 14. -/
def Obligations.LinkTimersAndExchangeStarts : Prop :=
  (∀ (s : State) (w : Nat),
    s.role = .handle → s.power.state = .active → s.power.fast = .running → s.link.exchange = none →
    s.link.backoff = none → (s.link.state = .identifying ∨ s.link.state = .fault) → s.link.pend.ident = true →
    Completes (.exchangeStart w) s (fun t =>
      t.link = { s.link with
        pend := { s.link.pend with ident := false },
        exchange := some {
          kind := .ident, frame := [0xA5, 0x01, 0x00, 0x01], enable := s.session.phase.charging,
          idleLimit := s.now + 20000000,
          sentAt := if w ≤ 20000000 then some (s.now + (w + 4 * 1562500 / 3)) else none, receiving := false } } ∧
      ChangesOnly [.link] s t)) ∧
  (∀ (s : State) (w : Nat),
    s.role = .handle → s.power.state = .active → s.power.fast = .running → s.link.exchange = none →
    s.link.backoff = none → s.link.state = .linked → s.link.pend.evacStop = true →
    Completes (.exchangeStart w) s (fun t =>
      t.link = { s.link with
        pend := { s.link.pend with evacStop := false },
        exchange := some {
          kind := .evacStop, frame := [0xA5, 0x05, 0x00, 0x05], enable := s.session.phase.charging,
          idleLimit := s.now + 20000000,
          sentAt := if w ≤ 20000000 then some (s.now + (w + 4 * 1562500 / 3)) else none, receiving := false } } ∧
      ChangesOnly [.link] s t)) ∧
  (∀ (s : State) (w : Nat),
    s.role = .handle → s.power.state = .active → s.power.fast = .running → s.link.exchange = none →
    s.link.backoff = none → s.link.state = .linked → s.link.pend.evacStop = false → s.link.pend.evacStart = true →
    Completes (.exchangeStart w) s (fun t =>
      t.link = { s.link with
        pend := { s.link.pend with evacStart := false },
        exchange := some {
          kind := .evacStart,
          frame := [0xA5, 0x03, 0x01, byteOf s.dockCfg.duration, 0x02 ^^^ byteOf s.dockCfg.duration],
          enable := s.session.phase.charging, idleLimit := s.now + 20000000,
          sentAt := if w ≤ 20000000 then some (s.now + (w + 5 * 1562500 / 3)) else none, receiving := false } } ∧
      ChangesOnly [.link] s t)) ∧
  (∀ (s : State) (w : Nat),
    let b := [0x02, 0x05, if s.session.phase.charging then 1 else 0] ++ le2 s.session.vLimit ++
      le2 (if s.session.phase.charging then s.session.request else 0)
    s.role = .handle → s.power.state = .active → s.power.fast = .running → s.link.exchange = none →
    s.link.backoff = none → s.link.state = .linked → s.link.pend.evacStop = false → s.link.pend.evacStart = false →
    s.link.pend.setpoint = true → s.seq.queue.length < 12 →
    Completes (.exchangeStart w) s (fun t =>
      t.link = { s.link with
        pend := { s.link.pend with setpoint := false },
        exchange := some {
          kind := .setpoint, frame := [0xA5] ++ b ++ [byteXor b], enable := s.session.phase.charging,
          idleLimit := s.now + 20000000,
          sentAt := if w ≤ 20000000 then some (s.now + (w + 9 * 1562500 / 3)) else none, receiving := false } } ∧
      (t.seq.queue.any (fun e => e.chan == .dockV && e.set.dock) || t.seq.inFlight.any (fun f => f.chan == .dockV &&
        f.set.dock)) = true ∧
      ChangesOnly [.link, .seq] s t)) ∧
  (∀ (s : State) (w : Nat),
    s.role = .handle → s.power.state = .active → s.power.fast = .running → s.link.exchange = none →
    s.link.backoff = none → s.link.state = .linked → s.link.pend.evacStop = false → s.link.pend.evacStart = false →
    s.link.pend.setpoint = false → s.link.pend.evacQuery = true →
    Completes (.exchangeStart w) s (fun t =>
      t.link = { s.link with
        pend := { s.link.pend with evacQuery := false },
        exchange := some {
          kind := .evacQuery, frame := [0xA5, 0x04, 0x00, 0x04], enable := s.session.phase.charging,
          idleLimit := s.now + 20000000,
          sentAt := if w ≤ 20000000 then some (s.now + (w + 4 * 1562500 / 3)) else none, receiving := false } } ∧
      ChangesOnly [.link] s t)) ∧
  (∀ (s : State) (w : Nat),
    (s.link.exchange.isSome = true ∨ s.link.backoff.isSome = true ∨ s.link.state = .absent) →
    Completes (.exchangeStart w) s (fun t => t = s)) ∧
  (∀ (s : State) (e : Exchange) (u : Nat),
    s.link.exchange = some e →
    e.sentAt = some u →
    (e.receiving = true ∨ s.now ≤ u + 20000000) →
    Completes (.responseStartBit) s (fun t =>
      t.now = max s.now u ∧
      t.link = { s.link with exchange := some { e with receiving := true } } ∧
      ChangesOnly [.now, .link] s t)) ∧
  (∀ (s : State) (d : Nat),
    s.link.backoff = some d →
    Completes (.backoffExpiry) s (fun t =>
      t.now = s.atDeadline d ∧
      t.link = { s.link with backoff := none } ∧
      ChangesOnly [.now, .link] s t)) ∧
  (∀ (s : State) (d : Nat),
    s.link.setpointPoll = some d →
    Completes (.setpointPollExpiry) s (fun t =>
      t.now = s.atDeadline d ∧
      t.link = { s.link with setpointPoll := some (d + 250000000), pend := { s.link.pend with setpoint := true } } ∧
      ChangesOnly [.now, .link] s t)) ∧
  (∀ (s : State) (d : Nat),
    s.link.queryPoll = some d →
    Completes (.evacQueryPollExpiry) s (fun t =>
      t.now = s.atDeadline d ∧
      t.link = { s.link with queryPoll := some (d + 500000000), pend := { s.link.pend with evacQuery := true } } ∧
      ChangesOnly [.now, .link] s t)) ∧
  (∀ (s : State) (d : Nat),
    s.link.faultRetry = some d →
    Completes (.faultRetryExpiry) s (fun t =>
      t.now = s.atDeadline d ∧
      t.link = { s.link with faultRetry := some (d + 1000000000), pend := { s.link.pend with ident := true } } ∧
      ChangesOnly [.now, .link] s t))

/-- Failures of exchanges (R147, R148), for each of the commands by which one fails: the first two in a row, and the third,
by each of the failing events. That LINK_FAILURE_LIMIT, the third failure taken alone, acts where the count stands at two,
is the model's choice (log entry 7). The times are log entry 14, which failures are BAD_CHECK log entry 24, the kind that
failed third log entry 21, and the order of the reports log entry 20. -/
def Obligations.FailedExchangesAreCounted : Prop :=
  (∀ (s : State) (e : Exchange),
    s.link.exchange = some e →
    e.sentAt = none → s.link.state ≠ .fault → s.link.failures < 2 →
    Completes (.linkIdleTimeout) s (fun t =>
      t.now = max s.now e.idleLimit ∧
      t.link = { s.link with
        exchange := none, lastOutcome := .timeout, failures := s.link.failures + 1,
        pend := s.link.pend.put e.kind true, backoff := some (t.now + 10000000) } ∧
      t.session =
        (if e.kind = .setpoint ∧ e.enable = true ∧ s.session.phase.charging = true then
          { s.session with dockTimer := some (s.session.dockTimer.getD (t.now + 1000000000)) } else s.session) ∧
      ChangesOnly [.now, .link, .session] s t)) ∧
  (∀ (s : State) (e : Exchange) (u : Nat),
    s.link.exchange = some e →
    e.sentAt = some u →
    s.now < u → s.link.state ≠ .fault → s.link.failures < 2 →
    Completes (.linkContention) s (fun t =>
      t.now = max s.now (u - e.frame.length * 1562500 / 3) ∧
      t.link = { s.link with
        exchange := none, lastOutcome := .contention, failures := s.link.failures + 1,
        pend := s.link.pend.put e.kind true, backoff := some (t.now + 10000000) } ∧
      t.session =
        (if e.kind = .setpoint ∧ e.enable = true ∧ s.session.phase.charging = true then
          { s.session with dockTimer := some (s.session.dockTimer.getD (t.now + 1000000000)) } else s.session) ∧
      ChangesOnly [.now, .link, .session] s t)) ∧
  (∀ (s : State) (e : Exchange) (u : Nat),
    s.link.exchange = some e →
    e.sentAt = some u →
    e.receiving = false → s.link.state ≠ .fault → s.link.failures < 2 →
    Completes (.responseTimeout) s (fun t =>
      t.now = max s.now (u + 20000000) ∧
      t.link = { s.link with
        exchange := none, lastOutcome := .timeout, failures := s.link.failures + 1,
        pend := s.link.pend.put e.kind true, backoff := some (t.now + 10000000) } ∧
      t.session =
        (if e.kind = .setpoint ∧ e.enable = true ∧ s.session.phase.charging = true then
          { s.session with dockTimer := some (s.session.dockTimer.getD (t.now + 1000000000)) } else s.session) ∧
      ChangesOnly [.now, .link, .session] s t)) ∧
  (∀ (s : State) (e : Exchange),
    s.link.exchange = some e →
    e.receiving = true → s.link.state ≠ .fault → s.link.failures < 2 →
    Completes (.linkFrameGapTimeout) s (fun t =>
      t.now = s.now ∧
      t.link = { s.link with
        exchange := none, lastOutcome := .badCheck, failures := s.link.failures + 1,
        pend := s.link.pend.put e.kind true, backoff := some (t.now + 10000000) } ∧
      t.session =
        (if e.kind = .setpoint ∧ e.enable = true ∧ s.session.phase.charging = true then
          { s.session with dockTimer := some (s.session.dockTimer.getD (t.now + 1000000000)) } else s.session) ∧
      ChangesOnly [.now, .link, .session] s t)) ∧
  (∀ (s : State) (f : List Byte) (e : Exchange) (u : Nat),
    s.link.exchange = some e →
    e.sentAt = some u →
    (e.receiving = true ∨ s.now ≤ u + 20000000) → s.link.state ≠ .fault → s.link.failures < 2 →
    Completes (.linkResponseInvalid f false) s (fun t =>
      t.now = max s.now u ∧
      t.link = { s.link with
        exchange := none, lastOutcome := .badCheck, failures := s.link.failures + 1,
        pend := s.link.pend.put e.kind true, backoff := some (t.now + 10000000) } ∧
      t.session =
        (if e.kind = .setpoint ∧ e.enable = true ∧ s.session.phase.charging = true then
          { s.session with dockTimer := some (s.session.dockTimer.getD (t.now + 1000000000)) } else s.session) ∧
      ChangesOnly [.now, .link, .session] s t)) ∧
  (∀ (s : State) (f : List Byte) (e : Exchange) (u : Nat),
    s.link.exchange = some e →
    e.sentAt = some u →
    (e.receiving = true ∨ s.now ≤ u + 20000000) →
    (f.getD 1 0 ≠ e.kind.kind + 0x40 ∨ (f.drop 1).foldl (· ^^^ ·) 0 ≠ 0) → s.link.state ≠ .fault →
    s.link.failures < 2 →
    Completes (.linkResponseInvalid f true) s (fun t =>
      t.now = max s.now u ∧
      t.link = { s.link with
        exchange := none, lastOutcome := .badCheck, failures := s.link.failures + 1,
        pend := s.link.pend.put e.kind true, backoff := some (t.now + 10000000) } ∧
      t.session =
        (if e.kind = .setpoint ∧ e.enable = true ∧ s.session.phase.charging = true then
          { s.session with dockTimer := some (s.session.dockTimer.getD (t.now + 1000000000)) } else s.session) ∧
      ChangesOnly [.now, .link, .session] s t)) ∧
  (∀ (s : State) (e : Exchange) (u : Nat),
    s.link.exchange = some e →
    e.sentAt = some u →
    e.receiving = false → s.link.state = .fault →
    Completes (.responseTimeout) s (fun t =>
      t.now = max s.now (u + 20000000) ∧
      t.link = { s.link with exchange := none, lastOutcome := .timeout } ∧
      t.session =
        (if e.kind = .setpoint ∧ e.enable = true ∧ s.session.phase.charging = true then
          { s.session with dockTimer := some (s.session.dockTimer.getD (t.now + 1000000000)) } else s.session) ∧
      ChangesOnly [.now, .link, .session] s t)) ∧
  (∀ (s : State) (f : LinkFailure) (e : Exchange),
    s.link.exchange = some e →
    Calm s → (s.link.state = .identifying ∨ s.link.state = .linked) → 2 ≤ s.link.failures →
    condActive s .dockLinkFault = false → ReportsFit s →
    Completes (.linkFailureLimit f) s (fun t =>
      LinkFailed e f s t ∧
      Raised .dockLinkFault (some (.number (outcomeOf f).code)) s t ∧
      Queued s t [raisedReportOf .dockLinkFault (some (.number (outcomeOf f).code)) s t,
        linkFaultReportOf t] ∧
      ChangesOnly [.link, .conds, .reports, .lost] s t)) ∧
  (∀ (s : State) (f : LinkFailure) (e : Exchange),
    s.link.exchange = some e →
    s.role = .handle → s.power.state = .active → s.power.standbyPending = false →
    s.link.state = .linked → 2 ≤ s.link.failures → condActive s .dockLinkFault = false →
    s.session.phase.charging = true → NoPortAlone s → ReportsFit s →
    Completes (.linkFailureLimit f) s (fun t =>
      PhaseMoved .suspended (some .linkLost) s t ∧
      LinkFailed e f s t ∧
      Raised .dockLinkFault (some (.number (outcomeOf f).code)) s t ∧
      Queued s t [raisedReportOf .dockLinkFault (some (.number (outcomeOf f).code)) s t, phaseReportOf t,
        linkFaultReportOf t] ∧
      ChangesOnly (phaseBlocks ++ [.link, .conds]) s t)) ∧
  (∀ (s : State) (f : LinkFailure) (e : Exchange),
    s.link.exchange = some e →
    e.kind ≠ .setpoint → s.link.state = .identifying → 2 ≤ s.link.failures → condActive s .dockLinkFault = true →
    ReportsFit s →
    Completes (.linkFailureLimit f) s (fun t =>
      LinkFailed e f s t ∧
      Queued s t [linkFaultReportOf t] ∧
      ChangesOnly [.link, .reports, .lost] s t)) ∧
  (∀ (s : State) (c : Instr) (e : Exchange) (f : LinkFailure) (n : Nat),
    s.link.exchange = some e →
    FailsBy c e s f n → Calm s → (s.link.state = .identifying ∨ s.link.state = .linked) → 2 ≤ s.link.failures →
    condActive s .dockLinkFault = false → ReportsFit s →
    Completes c s (fun t =>
      t.now = n ∧
      LinkFailed e f s t ∧
      Raised .dockLinkFault (some (.number (outcomeOf f).code)) s t ∧
      Queued s t [raisedReportOf .dockLinkFault (some (.number (outcomeOf f).code)) s t, linkFaultReportOf t] ∧
      ChangesOnly [.now, .link, .conds, .reports, .lost] s t)) ∧
  (∀ (s : State) (c : Instr) (e : Exchange) (f : LinkFailure) (n : Nat),
    s.link.exchange = some e →
    FailsBy c e s f n → s.role = .handle → s.power.state = .active → s.power.standbyPending = false →
    (s.link.state = .identifying ∨ s.link.state = .linked) → 2 ≤ s.link.failures →
    condActive s .dockLinkFault = false → suspendable s = true → NoPortAlone s → ReportsFit s →
    Completes c s (fun t =>
      t.now = n ∧
      PhaseMoved .suspended (some .linkLost) s t ∧
      LinkFailed e f s t ∧
      Raised .dockLinkFault (some (.number (outcomeOf f).code)) s t ∧
      Queued s t
        [raisedReportOf .dockLinkFault (some (.number (outcomeOf f).code)) s t, phaseReportOf t, linkFaultReportOf t] ∧
      ChangesOnly (phaseBlocks ++ [.now, .link, .conds]) s t)) ∧
  (∀ (s : State) (c : Instr) (e : Exchange) (f : LinkFailure) (n : Nat),
    s.link.exchange = some e →
    FailsBy c e s f n → s.link.state = .identifying → 2 ≤ s.link.failures → condActive s .dockLinkFault = true →
    ReportsFit s →
    Completes c s (fun t =>
      t.now = n ∧
      LinkFailed e f s t ∧
      t.session =
        (if e.kind = .setpoint ∧ e.enable = true ∧ s.session.phase.charging = true then
          { s.session with dockTimer := some (s.session.dockTimer.getD (t.now + 1000000000)) } else s.session) ∧
      Queued s t [linkFaultReportOf t] ∧
      ChangesOnly [.now, .link, .session, .reports, .lost] s t))

/-- The IDENT response by case (R150), from LINKED with every record, and from IDENTIFYING and FAULT. That a record marked
for re-adoption takes the reported outcome as a RUNNING one, and notes the end, is log entry 22. -/
def Obligations.IdentSettlesTheLink : Prop :=
  (∀ (s : State) (p : IdentPayload) (e : Exchange) (u : Nat),
    s.link.exchange = some e →
    e.sentAt = some u →
    (e.receiving = true ∨ s.now ≤ u + 20000000) → e.kind = .ident → p.revision = 1 → s.link.state = .linked →
    s.link.evac = .none → s.link.readopt = false →
    Completes (.identResponse p) s (fun t =>
      t.now = max s.now u ∧
      t.link = { s.link with exchange := none, failures := 0, lastOutcome := .ok, identity := p, readopt := false } ∧
      ChangesOnly [.now, .link] s t)) ∧
  (∀ (s : State) (p : IdentPayload) (e : Exchange) (u : Nat),
    s.link.exchange = some e →
    e.sentAt = some u →
    (e.receiving = true ∨ s.now ≤ u + 20000000) → e.kind = .ident → p.revision = 1 →
    (s.link.state = .identifying ∨ s.link.state = .fault) → s.link.evac = .none → s.link.readopt = false →
    s.role = .handle → ReportsFit s → (s.session.phase ≠ .none ∨ s.session.restart.isSome = true) →
    Completes (.identResponse p) s (fun t =>
      t.now = max s.now u ∧
      t.link = { s.link with
        exchange := none, failures := 0, lastOutcome := .ok, identity := p, readopt := false, state := .linked,
        backoff := none, faultRetry := none, setpointPoll := some (t.now + 250000000), queryPoll := none } ∧
      t.conds = s.conds.map (fun r => if r.kind = .dockLinkFault then { r with active := false } else r) ∧
      Queued s t ((if condActive s .dockLinkFault then [endedReportOf .dockLinkFault s t] else []) ++
        [{ kind := .dock, sub := 2, time := t.partTime, data := [2] }]) ∧
      ChangesOnly [.now, .link, .conds, .reports, .lost] s t)) ∧
  (∀ (s : State) (p : IdentPayload) (e : Exchange) (u : Nat),
    s.link.exchange = some e →
    e.sentAt = some u →
    (e.receiving = true ∨ s.now ≤ u + 20000000) → e.kind = .ident → p.revision = 1 →
    (s.link.state = .identifying ∨ s.link.state = .fault) → s.link.evac = .none → s.link.readopt = false →
    s.role = .handle → ReportsFit s → s.session.phase = .none → s.session.restart = none → NoPortAlone s →
    Completes (.identResponse p) s (fun t =>
      t.now = max s.now u ∧
      t.link = { s.link with
        exchange := none, failures := 0, lastOutcome := .ok, identity := p, readopt := false, state := .linked,
        backoff := none, faultRetry := none, setpointPoll := some (t.now + 250000000), queryPoll := none } ∧
      t.conds = s.conds.map (fun r => if r.kind = .dockLinkFault then { r with active := false } else r) ∧
      PhaseMoved .qualify none { s with
        session := { s.session with
          start := t.partTime, limit := none, precharge := none, topBalance := none, termination := 0,
          dock := { vLim := 0, iLim := 0, vOut := 0, iOut := 0, status := .off } } } t ∧
      Queued s t ((if condActive s .dockLinkFault then [endedReportOf .dockLinkFault s t] else []) ++
        [{ kind := .dock, sub := 2, time := t.partTime, data := [2] }, phaseReportOf t]) ∧
      ChangesOnly (phaseBlocks ++ [.now, .link, .conds]) s t)) ∧
  (∀ (s : State) (p : IdentPayload) (e : Exchange) (u : Nat),
    s.link.exchange = some e →
    e.sentAt = some u →
    (e.receiving = true ∨ s.now ≤ u + 20000000) → e.kind = .ident → p.revision = 1 → s.link.state = .linked →
    (s.link.evac ≠ .none ∨ s.link.readopt = true) → (p.evac = .starting ∨ p.evac = .running) → ReportsFit s →
    Completes (.identResponse p) s (fun t =>
      t.link = { s.link with
        exchange := none, failures := 0, lastOutcome := .ok, identity := p, readopt := false, evac := .running,
        queryPoll := some (s.link.queryPoll.getD (t.now + 500000000)) } ∧
      Queued s t [] ∧
      ChangesOnly [.now, .link, .fill, .reports, .lost] s t)) ∧
  (∀ (s : State) (p : IdentPayload) (e : Exchange) (u : Nat),
    s.link.exchange = some e →
    e.sentAt = some u →
    (e.receiving = true ∨ s.now ≤ u + 20000000) → e.kind = .ident → p.revision = 1 → s.link.state = .linked →
    s.link.evac = .requested → evacLive p.evac = false →
    Completes (.identResponse p) s (fun t =>
      t.link = { s.link with exchange := none, failures := 0, lastOutcome := .ok, identity := p, readopt := false } ∧
      ChangesOnly [.now, .link] s t)) ∧
  (∀ (s : State) (p : IdentPayload) (e : Exchange) (u : Nat),
    s.link.exchange = some e →
    e.sentAt = some u →
    (e.receiving = true ∨ s.now ≤ u + 20000000) → e.kind = .ident → p.revision = 1 → s.link.state = .linked →
    (s.link.evac = .running ∨ (s.link.evac = .none ∧ s.link.readopt = true)) → evacLive p.evac = false →
    ReportsFit s →
    Completes (.identResponse p) s (fun t =>
      t.link = { s.link with
        exchange := none, failures := 0, lastOutcome := .ok, identity := p, readopt := false, evac := .none,
        queryPoll := none, lastEvacEnd := some t.partTime,
        postCount := if p.evac = .done then some 0 else s.link.postCount } ∧
      Queued s t (if p.evac = .idle then (if s.link.evac = .running then
        [{ kind := .evacuation, sub := 4, time := t.partTime, data := [0xFF, 0] }] else []) else
        [{ kind := .evacuation, sub := (if p.evac = .done then 1 else 2), time := t.partTime, data := [0xFF, 0] }]) ∧
      ChangesOnly [.now, .link, .fill, .reports, .lost] s t)) ∧
  (∀ (s : State) (p : IdentPayload) (e : Exchange) (u : Nat),
    s.link.exchange = some e →
    e.sentAt = some u →
    (e.receiving = true ∨ s.now ≤ u + 20000000) → e.kind = .ident → p.revision = 1 →
    (s.link.state = .identifying ∨ s.link.state = .fault) → (s.link.evac ≠ .none ∨ s.link.readopt = true) →
    (p.evac = .starting ∨ p.evac = .running) → s.role = .handle → ReportsFit s →
    (s.session.phase ≠ .none ∨ s.session.restart.isSome = true) →
    Completes (.identResponse p) s (fun t =>
      t.link = { s.link with
        exchange := none, failures := 0, lastOutcome := .ok, identity := p, readopt := false, state := .linked,
        backoff := none, faultRetry := none, setpointPoll := some (t.now + 250000000),
        queryPoll := some (t.now + 500000000), evac := .running } ∧
      t.conds = s.conds.map (fun r => if r.kind = .dockLinkFault then { r with active := false } else r) ∧
      Queued s t ((if condActive s .dockLinkFault then [endedReportOf .dockLinkFault s t] else []) ++
        [{ kind := .dock, sub := 2, time := t.partTime, data := [2] }]) ∧
      ChangesOnly [.now, .link, .conds, .fill, .reports, .lost] s t)) ∧
  (∀ (s : State) (p : IdentPayload) (e : Exchange) (u : Nat),
    s.link.exchange = some e →
    e.sentAt = some u →
    (e.receiving = true ∨ s.now ≤ u + 20000000) → e.kind = .ident → p.revision = 1 →
    (s.link.state = .identifying ∨ s.link.state = .fault) →
    (s.link.evac = .running ∨ (s.link.evac = .none ∧ s.link.readopt = true)) → evacLive p.evac = false →
    s.role = .handle → ReportsFit s → (s.session.phase ≠ .none ∨ s.session.restart.isSome = true) →
    Completes (.identResponse p) s (fun t =>
      t.link = { s.link with
        exchange := none, failures := 0, lastOutcome := .ok, identity := p, readopt := false, state := .linked,
        backoff := none, faultRetry := none, setpointPoll := some (t.now + 250000000), queryPoll := none,
        evac := .none, lastEvacEnd := some t.partTime,
        postCount := if p.evac = .done then some 0 else s.link.postCount } ∧
      t.conds = s.conds.map (fun r => if r.kind = .dockLinkFault then { r with active := false } else r) ∧
      Queued s t ((if condActive s .dockLinkFault then [endedReportOf .dockLinkFault s t] else []) ++
        [{ kind := .dock, sub := 2, time := t.partTime, data := [2] }] ++
        (if p.evac = .idle then (if s.link.evac = .running then
          [{ kind := .evacuation, sub := 4, time := t.partTime, data := [0xFF, 0] }] else []) else
          [{ kind := .evacuation, sub := (if p.evac = .done then 1 else 2), time := t.partTime, data := [0xFF, 0] }])) ∧
      ChangesOnly [.now, .link, .conds, .fill, .reports, .lost] s t)) ∧
  (∀ (s : State) (p : IdentPayload) (e : Exchange) (u : Nat),
    s.link.exchange = some e →
    e.sentAt = some u →
    (e.receiving = true ∨ s.now ≤ u + 20000000) → e.kind = .ident → p.revision = 1 →
    (s.link.state = .identifying ∨ s.link.state = .fault) → s.link.evac = .requested → evacLive p.evac = false →
    s.role = .handle → ReportsFit s → (s.session.phase ≠ .none ∨ s.session.restart.isSome = true) →
    Completes (.identResponse p) s (fun t =>
      t.link = { s.link with
        exchange := none, failures := 0, lastOutcome := .ok, identity := p, readopt := false, state := .linked,
        backoff := none, faultRetry := none, setpointPoll := some (t.now + 250000000),
        queryPoll := some (t.now + 500000000) } ∧
      t.conds = s.conds.map (fun r => if r.kind = .dockLinkFault then { r with active := false } else r) ∧
      Queued s t ((if condActive s .dockLinkFault then [endedReportOf .dockLinkFault s t] else []) ++
        [{ kind := .dock, sub := 2, time := t.partTime, data := [2] }]) ∧
      ChangesOnly [.now, .link, .conds, .reports, .lost] s t)) ∧
  (∀ (s : State) (p : IdentPayload) (e : Exchange) (u : Nat),
    s.link.exchange = some e →
    e.sentAt = some u →
    (e.receiving = true ∨ s.now ≤ u + 20000000) → e.kind = .ident → p.revision = 1 →
    (s.link.state = .identifying ∨ s.link.state = .fault) → s.link.evac = .requested → evacLive p.evac = false →
    s.role = .handle → ReportsFit s → s.session.phase = .none → s.session.restart = none → NoPortAlone s →
    Completes (.identResponse p) s (fun t =>
      t.link = { s.link with
        exchange := none, failures := 0, lastOutcome := .ok, identity := p, readopt := false, state := .linked,
        backoff := none, faultRetry := none, setpointPoll := some (t.now + 250000000),
        queryPoll := some (t.now + 500000000) } ∧
      t.conds = s.conds.map (fun r => if r.kind = .dockLinkFault then { r with active := false } else r) ∧
      PhaseMoved .qualify none { s with
        session := { s.session with
          start := t.partTime, limit := none, precharge := none, topBalance := none, termination := 0,
          dock := { vLim := 0, iLim := 0, vOut := 0, iOut := 0, status := .off } } } t ∧
      Queued s t ((if condActive s .dockLinkFault then [endedReportOf .dockLinkFault s t] else []) ++
        [{ kind := .dock, sub := 2, time := t.partTime, data := [2] }, phaseReportOf t]) ∧
      ChangesOnly (phaseBlocks ++ [.now, .link, .conds]) s t)) ∧
  (∀ (s : State) (p : IdentPayload) (e : Exchange) (u : Nat),
    s.link.exchange = some e →
    e.sentAt = some u →
    (e.receiving = true ∨ s.now ≤ u + 20000000) → e.kind = .ident → p.revision = 1 →
    (s.link.state = .identifying ∨ s.link.state = .fault) → (s.link.evac ≠ .none ∨ s.link.readopt = true) →
    (p.evac = .starting ∨ p.evac = .running) →
    s.role = .handle → ReportsFit s → s.session.phase = .none → s.session.restart = none → NoPortAlone s →
    Completes (.identResponse p) s (fun t =>
      t.link = { s.link with
        exchange := none, failures := 0, lastOutcome := .ok, identity := p, readopt := false, state := .linked,
        backoff := none, faultRetry := none, setpointPoll := some (t.now + 250000000),
        queryPoll := some (t.now + 500000000), evac := .running } ∧
      t.conds = s.conds.map (fun r => if r.kind = .dockLinkFault then { r with active := false } else r) ∧
      PhaseMoved .qualify none { s with
        session := { s.session with
          start := t.partTime, limit := none, precharge := none, topBalance := none, termination := 0,
          dock := { vLim := 0, iLim := 0, vOut := 0, iOut := 0, status := .off } } } t ∧
      Queued s t ((if condActive s .dockLinkFault then [endedReportOf .dockLinkFault s t] else []) ++
        [{ kind := .dock, sub := 2, time := t.partTime, data := [2] }, phaseReportOf t]) ∧
      ChangesOnly (phaseBlocks ++ [.now, .link, .conds, .fill]) s t)) ∧
  (∀ (s : State) (p : IdentPayload) (e : Exchange) (u : Nat),
    s.link.exchange = some e →
    e.sentAt = some u →
    (e.receiving = true ∨ s.now ≤ u + 20000000) → e.kind = .ident → p.revision = 1 →
    (s.link.state = .identifying ∨ s.link.state = .fault) →
    (s.link.evac = .running ∨ (s.link.evac = .none ∧ s.link.readopt = true)) → evacLive p.evac = false →
    s.role = .handle → ReportsFit s → s.session.phase = .none → s.session.restart = none → NoPortAlone s →
    Completes (.identResponse p) s (fun t =>
      t.link = { s.link with
        exchange := none, failures := 0, lastOutcome := .ok, identity := p, readopt := false, state := .linked,
        backoff := none, faultRetry := none, setpointPoll := some (t.now + 250000000),
        queryPoll := none,
        evac := .none, lastEvacEnd := some t.partTime,
        postCount := if p.evac = .done then some 0 else s.link.postCount } ∧
      t.conds = s.conds.map (fun r => if r.kind = .dockLinkFault then { r with active := false } else r) ∧
      PhaseMoved .qualify none { s with
        session := { s.session with
          start := t.partTime, limit := none, precharge := none, topBalance := none, termination := 0,
          dock := { vLim := 0, iLim := 0, vOut := 0, iOut := 0, status := .off } } } t ∧
      Queued s t ((if condActive s .dockLinkFault then [endedReportOf .dockLinkFault s t] else []) ++
        [{ kind := .dock, sub := 2, time := t.partTime, data := [2] }, phaseReportOf t] ++
        (if p.evac = .idle then (if s.link.evac = .running then
          [{ kind := .evacuation, sub := 4, time := t.partTime, data := [0xFF, 0] }] else []) else
          [{ kind := .evacuation, sub := (if p.evac = .done then 1 else 2), time := t.partTime, data := [0xFF, 0] }])) ∧
      ChangesOnly (phaseBlocks ++ [.now, .link, .conds, .fill]) s t)) ∧
  (∀ (s : State) (p : IdentPayload) (e : Exchange) (u : Nat),
    s.link.exchange = some e →
    e.sentAt = some u →
    (e.receiving = true ∨ s.now ≤ u + 20000000) → e.kind = .ident → p.revision ≠ 1 → s.link.state ≠ .fault →
    s.link.failures < 2 →
    Completes (.identResponse p) s (fun t =>
      t.link = { s.link with
        exchange := none, lastOutcome := .badCheck, failures := s.link.failures + 1,
        pend := { s.link.pend with ident := true }, backoff := some (t.now + 10000000) } ∧
      ChangesOnly [.now, .link] s t))

/-- The other responses (R151, R79, R153), and every response given as its bytes (R147, R198): a valid one has the effect of
its own command. That an EVAC_QUERY response acts on a RUNNING record only, and the 0xFF of elapsed seconds, LOST's among
them, are log entry 22; that a code which names no value is read as a free one is log entry 24. -/
def Obligations.DockResponsesAreTaken : Prop :=
  (∀ (s : State) (p : SetpointPayload) (e : Exchange) (u : Nat),
    s.link.exchange = some e →
    e.sentAt = some u →
    (e.receiving = true ∨ s.now ≤ u + 20000000) → e.kind = .setpoint →
    Completes (.setpointResponse p) s (fun t =>
      t.now = max s.now u ∧
      t.link = { s.link with exchange := none, failures := 0, lastOutcome := .ok } ∧
      t.session = { s.session with
        dock := {
          vLim := p.vLim.toNat, iLim := p.iLim.toNat, vOut := p.vOut.toNat, iOut := p.iOut.toNat, status := p.status },
        dockTimer := if s.session.phase.charging = false then s.session.dockTimer else if p.status = .on ∨ p.status =
          .limited then none else if e.enable then some (s.session.dockTimer.getD (t.now + 1000000000)) else
          s.session.dockTimer } ∧
      ChangesOnly [.now, .link, .session] s t)) ∧
  (∀ (s : State) (a : EvacAnswer) (e : Exchange) (u : Nat),
    s.link.exchange = some e →
    e.sentAt = some u →
    (e.receiving = true ∨ s.now ≤ u + 20000000) → e.kind = .evacStart → (a = .accepted ∨ a = .refused .busy) →
    Completes (.evacStartResponse a) s (fun t =>
      t.link = { s.link with
        exchange := none, failures := 0, lastOutcome := .ok, evac := .running,
        queryPoll := if s.link.state = .linked then some (s.link.queryPoll.getD (t.now + 500000000)) else
          s.link.queryPoll, pend := { s.link.pend with evacStop := s.link.pend.evacStop || s.link.stopPending } } ∧
      ChangesOnly [.now, .link, .fill] s t)) ∧
  (∀ (s : State) (r : EvacRefusal) (e : Exchange) (u : Nat),
    s.link.exchange = some e →
    e.sentAt = some u →
    (e.receiving = true ∨ s.now ≤ u + 20000000) → e.kind = .evacStart → r ≠ .busy → ReportsFit s →
    Completes (.evacStartResponse (.refused r)) s (fun t =>
      t.link = { s.link with
        exchange := none, failures := 0, lastOutcome := .ok, stopPending := false, evac := .none, queryPoll := none,
        lastEvacEnd := some t.partTime } ∧
      Queued s t [{ kind := .evacuation, sub := 3, time := t.partTime, data := [0xFF, byteOf (evacRefusalWire r)] }] ∧
      ChangesOnly [.now, .link, .fill, .reports, .lost] s t)) ∧
  (∀ (s : State) (d : EvacState) (el : Byte) (r : Option AbortReason) (e : Exchange) (u : Nat),
    s.link.exchange = some e →
    e.sentAt = some u →
    (e.receiving = true ∨ s.now ≤ u + 20000000) → e.kind = .evacQuery →
    (s.link.evac ≠ .running ∨ d = .starting ∨ d = .running) →
    Completes (.evacQueryResponse d el r) s (fun t =>
      t.now = max s.now u ∧
      t.link = { s.link with exchange := none, failures := 0, lastOutcome := .ok } ∧
      ChangesOnly [.now, .link] s t)) ∧
  (∀ (s : State) (d : EvacState) (el : Byte) (r : Option AbortReason) (e : Exchange) (u : Nat),
    s.link.exchange = some e →
    e.sentAt = some u →
    (e.receiving = true ∨ s.now ≤ u + 20000000) → e.kind = .evacQuery → s.link.evac = .running → evacLive d = false →
    ReportsFit s →
    Completes (.evacQueryResponse d el r) s (fun t =>
      t.link = { s.link with
        exchange := none, failures := 0, lastOutcome := .ok, evac := .none, queryPoll := none,
        lastEvacEnd := some t.partTime, postCount := if d = .done then some 0 else s.link.postCount } ∧
      Queued s t [if d = .idle then { kind := .evacuation, sub := 4, time := t.partTime, data := [0xFF, 0] } else if d
        = .done then { kind := .evacuation, sub := 1, time := t.partTime, data := [byteOf el.toNat, 0] } else
        { kind := .evacuation, sub := 2, time := t.partTime, data := [byteOf el.toNat, byteOf (abortReasonWire r)] }]
        ∧
      ChangesOnly [.now, .link, .fill, .reports, .lost] s t)) ∧
  (∀ (s : State) (d : EvacState) (e : Exchange) (u : Nat),
    s.link.exchange = some e →
    e.sentAt = some u →
    (e.receiving = true ∨ s.now ≤ u + 20000000) → e.kind = .evacStop →
    Completes (.evacStopResponse d) s (fun t =>
      t.now = max s.now u ∧
      t.link = { s.link with exchange := none, failures := 0, lastOutcome := .ok, stopPending := false } ∧
      ChangesOnly [.now, .link] s t)) ∧
  (∀ (s : State) (p : SetpointPayload) (x : Byte) (e : Exchange) (u : Nat),
    let body := [0x42, 9] ++ bytes2 p.vLim ++ bytes2 p.iLim ++ bytes2 p.vOut ++ bytes2 p.iOut ++ [x]
    s.link.exchange = some e →
    e.sentAt = some u →
    (e.receiving = true ∨ s.now ≤ u + 20000000) → e.kind = .setpoint →
    Completes (.linkResponseInvalid (0xA5 :: body ++ [body.foldl (· ^^^ ·) 0]) true) s (fun t =>
      ∃ d, afterCommand (.setpointResponse { p with status := d }) s = some { t with free := s.free } ∧
        t.free = (if x.toNat < 4 then s.free else s.free + 1) ∧ (x.toNat < 4 → outStatusCode d = x.toNat))) ∧
  (∀ (s : State) (p : IdentPayload) (x y z : Byte) (e : Exchange) (u : Nat),
    let named := x.toNat < 2 ∧ y.toNat < 2 ∧ z.toNat < 5
    let body := [0x41, 11, p.revision] ++ bytes2 p.vMaxOut ++ bytes2 p.iMaxOut ++ bytes2 p.busLimit ++
      [x, p.bagLevel, y, z]
    s.link.exchange = some e →
    e.sentAt = some u →
    (e.receiving = true ∨ s.now ≤ u + 20000000) → e.kind = .ident →
    p.revision = 1 →
    Completes (.linkResponseInvalid (0xA5 :: body ++ [body.foldl (· ^^^ ·) 0]) true) s (fun t =>
      ∃ b c d, afterCommand (.identResponse { p with fitted := b, bagFull := c, evac := d }) s =
          some { t with free := s.free } ∧
        t.free = (if named then s.free else s.free + 1) ∧
        (x.toNat < 2 → b = decide (x = 1)) ∧ (y.toNat < 2 → c = decide (y = 1)) ∧
        (z.toNat < 5 → evacStateCode d = z.toNat))) ∧
  (∀ (s : State) (x y : Byte) (e : Exchange) (u : Nat),
    let named := x = 0 ∨ (x = 1 ∧ 1 ≤ y.toNat ∧ y.toNat ≤ 4)
    let body := [0x43, 2, x, y]
    s.link.exchange = some e →
    e.sentAt = some u →
    (e.receiving = true ∨ s.now ≤ u + 20000000) → e.kind = .evacStart →
    Completes (.linkResponseInvalid (0xA5 :: body ++ [body.foldl (· ^^^ ·) 0]) true) s (fun t =>
      ∃ a, afterCommand (.evacStartResponse a) s = some { t with free := s.free } ∧
        t.free = (if named then s.free else s.free + 1) ∧
        (x = 0 → a = .accepted) ∧
        (x = 1 → ∃ r, a = .refused r ∧ (1 ≤ y.toNat ∧ y.toNat ≤ 4 → evacRefusalWire r = y.toNat)))) ∧
  (∀ (s : State) (x el y : Byte) (e : Exchange) (u : Nat),
    let named := x.toNat < 5 ∧ y.toNat < 6
    let body := [0x44, 3, x, el, y]
    s.link.exchange = some e →
    e.sentAt = some u →
    (e.receiving = true ∨ s.now ≤ u + 20000000) → e.kind = .evacQuery →
    Completes (.linkResponseInvalid (0xA5 :: body ++ [body.foldl (· ^^^ ·) 0]) true) s (fun t =>
      ∃ d r, afterCommand (.evacQueryResponse d el r) s = some { t with free := s.free } ∧
        t.free = (if named then s.free else s.free + 1) ∧
        (x.toNat < 5 → evacStateCode d = x.toNat) ∧ (y.toNat < 6 → abortReasonWire r = y.toNat))) ∧
  (∀ (s : State) (x : Byte) (e : Exchange) (u : Nat),
    let body := [0x45, 1, x]
    s.link.exchange = some e →
    e.sentAt = some u →
    (e.receiving = true ∨ s.now ≤ u + 20000000) → e.kind = .evacStop →
    Completes (.linkResponseInvalid (0xA5 :: body ++ [body.foldl (· ^^^ ·) 0]) true) s (fun t =>
      ∃ d, afterCommand (.evacStopResponse d) s = some { t with free := s.free } ∧
        t.free = (if x.toNat < 5 then s.free else s.free + 1) ∧ (x.toNat < 5 → evacStateCode d = x.toNat)))

/-- The dock link's requests (R152, R154, R156, R157). DOCK LINK before the CHARGE_PHASE of the suspension is log entry 20,
CANCEL_EVACUATION by the exchange's progress log entry 22, the request that arrives in dock role log entry 33, and that
HALT DOCK_LINK abandons a response still in its 1 ms log entry 37. -/
def Obligations.DockLinkRequestsAreAnswered : Prop :=
  (∀ (s : State) (tag : Byte),
    Listening s → s.role = .handle → s.link.evac ≠ .none →
    Completes (.evacuate tag) s (fun t =>
      Answered s t 0x50 tag .busy [] [])) ∧
  (∀ (s : State) (tag : Byte),
    Listening s → s.role = .handle → s.link.evac = .none →
    (s.link.state ≠ .linked ∨ s.link.identity.fitted = false) →
    Completes (.evacuate tag) s (fun t =>
      Answered s t 0x50 tag .refused [if s.link.state = .linked then 1 else 0] [])) ∧
  (∀ (s : State) (tag : Byte),
    Listening s → s.role = .handle → s.link.evac = .none → s.link.state = .linked → s.link.identity.fitted = true →
    Completes (.evacuate tag) s (fun t =>
      Replied (received s) t 0x50 tag .ok [] ∧
      t.link = { s.link with
        evac := .requested, pend := { s.link.pend with evacStart := true }, stopPending := false, postCount := none,
        queryPoll := some (s.link.queryPoll.getD (t.now + 500000000)) } ∧
      ChangesOnly [.port, .free, .link, .fill] (received s) t)) ∧
  (∀ (s : State) (tag : Byte),
    Listening s → s.role = .handle → s.link.evac = .none →
    Completes (.cancelEvacuation tag) s (fun t =>
      Answered s t 0x51 tag .ok [] [])) ∧
  (∀ (s : State) (tag : Byte),
    Listening s → s.role = .handle → s.link.evac = .requested → s.link.pend.evacStart = true → ReportsFit s →
    Completes (.cancelEvacuation tag) s (fun t =>
      Replied (received s) t 0x51 tag .ok [] ∧
      t.link = { s.link with
        evac := .none, pend := { s.link.pend with evacStart := false }, lastEvacEnd := some t.partTime,
        queryPoll := none } ∧
      Queued (received s) t [{ kind := .evacuation, sub := 5, time := t.partTime, data := [0xFF, 0] }] ∧
      ChangesOnly [.port, .free, .link, .fill, .reports, .lost] (received s) t)) ∧
  (∀ (s : State) (tag : Byte),
    Listening s → s.role = .handle →
    (s.link.evac = .running ∨ (s.link.evac = .requested ∧ s.link.pend.evacStart = false)) →
    Completes (.cancelEvacuation tag) s (fun t =>
      Answered s t 0x51 tag .ok [] [.link] ∧
      t.link = { s.link with
        stopPending := true,
        pend := { s.link.pend with evacStop := s.link.pend.evacStop || (s.link.evac == .running) } })) ∧
  (∀ (s : State) (tag a d l c : Byte),
    let cfg :=
      ({
        autoEvacuate := decide (a ≠ 0), duration := max 5 (min 60 d.toNat), level := max 1 (min 4 l.toNat),
        chargingEnabled := decide (c ≠ 0) } : DockCfg)
    Listening s → (s.role = .dock ∨ c ≠ 0 ∨ s.dockCfg.chargingEnabled = false ∨ s.session.phase.charging = false) →
    Completes (.configureDock tag a d l c) s (fun t =>
      t.dockCfg = cfg ∧
      Answered s t 0x27 tag (if cfg.duration = d.toNat ∧ cfg.level = l.toNat then .ok else .okClamped) [if a = 0 then
        0 else 1, byteOf cfg.duration, byteOf cfg.level, if c = 0 then 0 else 1] [.dockCfg])) ∧
  (∀ (s : State) (tag a d l c : Byte),
    let cfg :=
      ({
        autoEvacuate := decide (a ≠ 0), duration := max 5 (min 60 d.toNat), level := max 1 (min 4 l.toNat),
        chargingEnabled := decide (c ≠ 0) } : DockCfg)
    Listening s → s.role = .handle → c = 0 → s.dockCfg.chargingEnabled = true → s.session.phase.charging = true →
    NoPortAlone s → ReportsFit s →
    Completes (.configureDock tag a d l c) s (fun t =>
      t.dockCfg = cfg ∧
      Replied (received s) t 0x27 tag (if cfg.duration = d.toNat ∧ cfg.level = l.toNat then .ok else .okClamped) [if a
        = 0 then 0 else 1, byteOf cfg.duration, byteOf cfg.level, if c = 0 then 0 else 1] ∧
      PhaseMoved .qualify none s t ∧
      Queued (received s) t [phaseReportOf t] ∧
      ChangesOnly (phaseBlocks ++ [.port, .free, .dockCfg]) (received s) t)) ∧
  (∀ (s : State) (tag : Byte),
    Listening s → s.role = .handle → (suspendable s = false ∨ s.link.state ≠ .linked) → ReportsFit s →
    Completes (.haltDockLink tag) s (fun t =>
      Replied (received s) t 0x12 tag .ok [] ∧
      t.link = { s.link with
        state := if s.link.docked then .identifying else .absent, failures := 0, exchange := none,
        pend :=
          { ident := s.link.docked, setpoint := false, evacStart := false, evacQuery := false, evacStop := false },
        setpointPoll := none, queryPoll := none, backoff := none, faultRetry := none, evac := .none,
        readopt := s.link.readopt || !(s.link.evac == .none),
        stopPending := false } ∧
      Queued (received s) t
        [{ kind := .dock, sub := 2, time := t.partTime, data := [if s.link.docked then 1 else 0] }] ∧
      ChangesOnly [.port, .free, .link, .fill, .reports, .lost] (received s) t)) ∧
  (∀ (s : State) (tag : Byte),
    Listening s → s.role = .handle → suspendable s = true → s.link.state = .linked → NoPortAlone s → ReportsFit s →
    Completes (.haltDockLink tag) s (fun t =>
      Replied (received s) t 0x12 tag .ok [] ∧
      t.link = { s.link with
        state := if s.link.docked then .identifying else .absent, failures := 0, exchange := none,
        pend :=
          { ident := s.link.docked, setpoint := false, evacStart := false, evacQuery := false, evacStop := false },
        setpointPoll := none, queryPoll := none, backoff := none, faultRetry := none, evac := .none,
        readopt := s.link.readopt || !(s.link.evac == .none),
        stopPending := false } ∧
      PhaseMoved .suspended (some .linkLost) s t ∧
      Queued (received s) t
        [{ kind := .dock, sub := 2, time := t.partTime, data := [if s.link.docked then 1 else 0] }, phaseReportOf t] ∧
      ChangesOnly (phaseBlocks ++ [.port, .free, .link, .fill]) (received s) t)) ∧
  (∀ (s : State) (tag : Byte),
    Listening s → s.role = .dock →
    Completes (.haltDockLink tag) s (fun t =>
      Answered s t 0x12 tag .ok [] [.responder] ∧
      t.responder = { s.responder with
        response := none, arrival := if s.responder.arrival = .idle then .idle else .abandoned }))

/-- The responder's requests (R159), with the output stage (R163 to R166) and the cycle (R171, R173, R174). The keep-
alive timer is the deadline 1,000 ms on; the response starts 1 ms on (log entry 14). Of a request that HALT DOCK_LINK
abandoned while it arrived (R157, log entry 33) nothing is taken. -/
def Obligations.ValidRequestsAreAnsweredByTheDock : Prop :=
  (∀ (s : State),
    s.fastUp = true → s.role = .dock → s.responder.arrival ≠ .abandoned →
    Completes (.identRequest) s (fun t =>
      t.responder = { s.responder with
        lastValid := some s.partTime, keepAlive := some (s.now + 1000000000), arrival := .idle,
        response := some {
          frame := linkFrame 0x41 ([1] ++ le2 30000 ++ le2 s.output.iMax ++ le2 s.output.busLimit ++ [if s.evacFit
            then 1 else 0, byteOf s.fill.debounced, if condActive s .bagFull then 1 else 0, byteOf (evacStateCode
            s.cycle.state)]), startAt := s.now + 1000000, sending := false } } ∧
      ChangesOnly [.responder] s t)) ∧
  (∀ (s : State) (en : Bool) (v i : BitVec 16),
    s.fastUp = true → s.role = .dock → s.responder.arrival ≠ .abandoned →
    Completes (.setpointRequest en v i) s (fun t =>
      t.responder = { s.responder with
        lastValid := some s.partTime, keepAlive := some (s.now + 1000000000), arrival := .idle,
        response := some {
          frame := linkFrame 0x42 (le2 t.output.vLim ++ le2 t.output.iApp ++ le2 (saturate 65535 (s.chan
            .dockV).value) ++ le2 (saturate 65535 (s.chan .outI).value) ++ [byteOf (outStatusCode t.output.status)]),
          startAt := s.now + 1000000, sending := false } } ∧
      t.output.vLim = min 30000 (v.toNat : Int) ∧ t.output.iRequested = i.toNat ∧
      t.output.permission = (en && (s.output.permission || (s.responder.present && !outputInhibited s))) ∧
      t.output.period =
        (if t.output.permission then (if s.output.permission then s.output.period else some (s.now + 1000000)) else if
          en then s.output.period else none) ∧
      t.output.duty = (if en then s.output.duty else 0) ∧ t.output.stale = (if en then s.output.stale else 0) ∧
      t.output.pAllow = s.output.busLimit - (if s.drive.state.running then s.drive.pCeil else 0) ∧
      t.output.iApp =
        (if t.output.vLim = 0 then 0 else min t.output.iRequested (min s.output.iMax ((t.output.pAllow * 1000000).tdiv
          t.output.vLim))) ∧
      t.output.status =
        (if outputInhibited s then .fault else if t.output.permission = false then .off else if t.output.iApp <
          t.output.iRequested then .limited else .on) ∧
      t.output.busLimit = s.output.busLimit ∧ t.output.iMax = s.output.iMax ∧ t.output.vOut = s.output.vOut ∧
      t.output.iOut = s.output.iOut ∧ t.output.recovery = s.output.recovery ∧
      ChangesOnly [.responder, .output] s t)) ∧
  (∀ (s : State) (d : Byte),
    let why :=
      (if s.cycle.state = .starting ∨ s.cycle.state = .running then 3
       else if s.evacFit = false then 2 else if condActive s .bagFull then 1 else 4 : Byte)
    s.fastUp = true → s.role = .dock → s.responder.arrival ≠ .abandoned →
    (s.cycle.state = .starting ∨ s.cycle.state = .running ∨ s.evacFit = false ∨ condActive s .bagFull = true ∨
      driveInhibited s = true) →
    Completes (.evacStartRequest d) s (fun t =>
      t.responder = { s.responder with
        lastValid := some s.partTime, keepAlive := some (s.now + 1000000000), arrival := .idle,
        response := some { frame := linkFrame 0x43 ([1, why]), startAt := s.now + 1000000, sending := false } } ∧
      ChangesOnly [.responder] s t)) ∧
  (∀ (s : State) (d : Byte),
    s.fastUp = true → s.role = .dock → s.responder.arrival ≠ .abandoned → evacLive s.cycle.state = false →
    s.evacFit = true →
    condActive s .bagFull = false → driveInhibited s = false → ReportsFit s → s.drive.state = .coasting →
    Completes (.evacStartRequest d) s (fun t =>
      t.responder = { s.responder with
        lastValid := some s.partTime, keepAlive := some (s.now + 1000000000), arrival := .idle,
        response := some { frame := linkFrame 0x43 ([0, 0]), startAt := s.now + 1000000, sending := false } } ∧
      t.cycle = { s.cycle with
        state := .starting, reason := none, duration := max 5 (min 60 d.toNat), elapsed := 0, timer := none } ∧
      t.drive = { s.drive with pendingStart := true } ∧
      Queued s t
        [{ kind := .evacuation, sub := 0, time := t.partTime, data := [byteOf (max 5 (min 60 d.toNat) : Nat), 0] }] ∧
      ChangesOnly [.responder, .cycle, .drive, .fill, .reports, .lost] s t)) ∧
  (∀ (s : State) (d : Byte),
    s.fastUp = true → s.role = .dock → s.responder.arrival ≠ .abandoned → evacLive s.cycle.state = false →
    s.evacFit = true →
    condActive s .bagFull = false → driveInhibited s = false → ReportsFit s → s.drive.state = .stopped →
    s.port.silent = false → NoPortAlone s →
    Completes (.evacStartRequest d) s (fun t =>
      t.responder = { s.responder with
        lastValid := some s.partTime, keepAlive := some (s.now + 1000000000), arrival := .idle,
        response := some { frame := linkFrame 0x43 ([0, 0]), startAt := s.now + 1000000, sending := false } } ∧
      t.cycle = { s.cycle with
        state := .starting, reason := none, duration := max 5 (min 60 d.toNat), elapsed := 0, timer := none } ∧
      Started s t ∧
      CeilingLeast t ∧
      Queued s t
        [{ kind := .evacuation, sub := 0, time := t.partTime, data := [byteOf (max 5 (min 60 d.toNat) : Nat), 0] },
        startReportOf t] ∧
      t.output.pAllow = s.output.busLimit - t.drive.pCeil ∧
      ChangesOnly [.responder, .cycle, .drive, .motor, .dirt, .output, .seq, .fill, .monitor, .session, .power,
        .reports, .lost] s t)) ∧
  (∀ (s : State),
    s.fastUp = true → s.role = .dock → s.responder.arrival ≠ .abandoned →
    Completes (.evacQueryRequest) s (fun t =>
      t.responder = { s.responder with
        lastValid := some s.partTime, keepAlive := some (s.now + 1000000000), arrival := .idle,
        response := some {
          frame := linkFrame 0x44 ([byteOf (evacStateCode s.cycle.state), byteOf (if s.cycle.state = .running then
            (s.partTime - s.cycle.runningSince).toNat / 1000 else s.cycle.elapsed), byteOf (abortReasonWire
            s.cycle.reason)]), startAt := s.now + 1000000, sending := false } } ∧
      ChangesOnly [.responder] s t)) ∧
  (∀ (s : State),
    s.fastUp = true → s.role = .dock → s.responder.arrival ≠ .abandoned → evacLive s.cycle.state = false →
    Completes (.evacStopRequest) s (fun t =>
      t.responder = { s.responder with
        lastValid := some s.partTime, keepAlive := some (s.now + 1000000000), arrival := .idle,
        response := some {
          frame := linkFrame 0x45 ([byteOf (evacStateCode s.cycle.state)]), startAt := s.now + 1000000,
          sending := false } } ∧
      ChangesOnly [.responder] s t)) ∧
  (∀ (s : State),
    s.fastUp = true → s.role = .dock → s.responder.arrival ≠ .abandoned → evacLive s.cycle.state = true →
    s.drive.state.running = true → ReportsFit s →
    Completes (.evacStopRequest) s (fun t =>
      t.responder = { s.responder with
        lastValid := some s.partTime, keepAlive := some (s.now + 1000000000), arrival := .idle,
        response := some { frame := linkFrame 0x45 ([4]), startAt := s.now + 1000000, sending := false } } ∧
      StopMade .evacStopped s t ∧
      t.cycle = { s.cycle with state := .aborted, reason := some .stopped, elapsed := cycleElapsed s, timer := none }
        ∧
      t.output = { s.output with
        pAllow := s.output.busLimit,
        iApp := appliedCurrent s.output.iRequested s.output.iMax s.output.busLimit s.output.vLim,
        status := t.output.status } ∧
      Queued s t (stopReportsOf .evacStopped s t ++
        [{ kind := .evacuation, sub := 2, time := t.partTime, data := [byteOf (cycleElapsed s), 1] }]) ∧
      ChangesOnly [.responder, .cycle, .drive, .motor, .dirt, .output, .fill, .reports, .lost] s t)) ∧
  (∀ (s : State),
    s.fastUp = true → s.role = .dock → s.responder.arrival ≠ .abandoned → evacLive s.cycle.state = true →
    s.drive.state.running = false → ReportsFit s →
    Completes (.evacStopRequest) s (fun t =>
      t.responder = { s.responder with
        lastValid := some s.partTime, keepAlive := some (s.now + 1000000000), arrival := .idle,
        response := some { frame := linkFrame 0x45 ([4]), startAt := s.now + 1000000, sending := false } } ∧
      t.cycle = { s.cycle with state := .aborted, reason := some .stopped, elapsed := cycleElapsed s, timer := none }
        ∧
      t.drive =
        { s.drive with armed := false, pendingStart := false, trigOn := s.drive.trigOn && (s.driveCfg.mode == .hold) }
        ∧
      Queued s t [{ kind := .evacuation, sub := 2, time := t.partTime, data := [byteOf (cycleElapsed s), 1] }] ∧
      ChangesOnly [.responder, .cycle, .drive, .fill, .reports, .lost] s t)) ∧
  (∀ (s : State) (c : Instr) (k : Exch) (p : List Byte),
    linkCommand c = some (k, p) →
    s.fastUp = true → s.role = .dock → s.responder.arrival = .abandoned →
    Completes c s (fun t =>
      t.responder = { s.responder with arrival := .idle } ∧
      ChangesOnly [.responder] s t))

/-- The sending of a response and the frames that the responder receives (R159, R142). That a response stays recorded while
it is sent and can be abandoned for its bytes' time is log entry 14; how a frame begins to arrive is log entry 33, and
that DOCK_FRAME_DISCARDED with a valid request takes it log entry 24. -/
def Obligations.ResponsesAreSentOrAbandoned : Prop :=
  (∀ (s : State) (r : Response),
    s.responder.response = some r →
    r.sending = false →
    Completes (.responseSendStart) s (fun t =>
      t.now = max s.now r.startAt ∧
      t.responder = { s.responder with response := some { r with sending := true } } ∧
      ChangesOnly [.now, .responder] s t)) ∧
  (∀ (s : State) (r : Response),
    s.responder.response = some r →
    r.sending = true → s.now < r.startAt + r.frame.length * 1562500 / 3 →
    Completes (.responderContention) s (fun t =>
      t.responder = { s.responder with response := none } ∧
      ChangesOnly [.responder] s t)) ∧
  (∀ (s : State),
    s.responder.response = none →
    Completes (.responderContention) s (fun t => t = s)) ∧
  (∀ (s : State) (r : Response),
    s.responder.response = some r →
    r.sending = false →
    Completes (.responderContention) s (fun t => t = s)) ∧
  (∀ (s : State) (f : List Byte) (ok : Bool) (r : Response),
    s.responder.response = some r →
    s.fastUp = true → s.role = .dock → s.responder.arrival ≠ .abandoned → requestOf f ok = none → r.sending = true →
    s.now < r.startAt + r.frame.length * 1562500 / 3 →
    Completes (.dockFrameDiscarded f ok) s (fun t =>
      t.responder = { s.responder with response := none, arrival := .idle } ∧
      ChangesOnly [.responder] s t)) ∧
  (∀ (s : State) (f : List Byte) (ok : Bool),
    s.fastUp = true → s.role = .dock → requestOf f ok = none →
    (s.responder.response = none ∨ s.responder.arrival = .abandoned ∨
      ∃ r ∈ s.responder.response, r.sending = false) →
    Completes (.dockFrameDiscarded f ok) s (fun t =>
      t.responder = { s.responder with arrival := .idle } ∧
      ChangesOnly [.responder] s t)) ∧
  (∀ (s : State) (f : List Byte) (ok : Bool),
    (s.fastUp = false ∨ s.role = .handle) →
    Completes (.dockFrameDiscarded f ok) s (fun t => t = s)) ∧
  (∀ (s : State) (c : Instr) (k : Exch) (p : List Byte),
    linkCommand c = some (k, p) →
    exec (.dockFrameDiscarded (linkBytes k.kind p) true) s = exec c s) ∧
  (∀ (f : List Byte) (k : Exch),
    requestOf f false = none ∧
    (requestOf f true = some k ↔
      ∃ p : List Byte,
        p.length = (if k = .setpoint then 5 else if k = .evacStart then 1 else 0) ∧ f = linkBytes k.kind p)) ∧
  (∀ (s : State),
    s.link.exchange = none → s.fastUp = true → s.role = .dock →
    Completes (.responseStartBit) s (fun t =>
      t.responder = { s.responder with
        arrival := .begun,
        response := if s.responder.response.any (fun r => r.sending && decide (s.now < r.startAt + r.frame.length *
          1562500 / 3)) then none else s.responder.response } ∧
      ChangesOnly [.responder] s t)) ∧
  (∀ (s : State),
    s.link.exchange = none → s.fastUp = true → s.role = .dock →
    Completes (.linkFrameGapTimeout) s (fun t =>
      t.responder = { s.responder with arrival := .idle } ∧
      ChangesOnly [.responder] s t))

/-- Keep-alive, presence and duration (R160, R161, R172, R173). -/
def Obligations.TheDockLosesAndFindsTheStick : Prop :=
  (∀ (s : State) (h : Bool),
    (s.up = false ∨ s.role = .handle) →
    Completes (.stickSenseChange h) s (fun t =>
      t.pins = { s.pins with stick := h } ∧
      ChangesOnly [.pins] s t)) ∧
  (∀ (s : State),
    s.up = true → s.role = .dock →
    Completes (.stickSenseChange s.responder.present) s (fun t =>
      t.pins = { s.pins with stick := s.responder.present } ∧
      t.responder = { s.responder with candidate := none } ∧
      ChangesOnly [.pins, .responder] s t)) ∧
  (∀ (s : State),
    s.up = true → s.role = .dock →
    Completes (.stickSenseChange (!s.responder.present)) s (fun t =>
      t.pins = { s.pins with stick := !s.responder.present } ∧
      t.responder = { s.responder with
        candidate := some (s.responder.candidate.getD (s.now + (if s.responder.present then 50000000 else 200000000))) }
        ∧
      ChangesOnly [.pins, .responder] s t)) ∧
  (∀ (s : State) (d : Nat),
    s.responder.candidate = some d →
    s.responder.present = false →
    Completes (.stickPresentQualified) s (fun t =>
      t.now = s.atDeadline d ∧
      t.responder = { s.responder with present := true, candidate := none } ∧
      ChangesOnly [.now, .responder] s t)) ∧
  (∀ (s : State) (d : Nat),
    s.responder.keepAlive = some d →
    s.role = .dock → evacLive s.cycle.state = false →
    Completes (.keepaliveExpiry) s (fun t =>
      t.now = s.atDeadline d ∧
      t.responder = { s.responder with keepAlive := none } ∧
      t.output = { s.output with
        permission := false, duty := 0, period := none, stale := 0,
        status := if outputInhibited s then .fault else .off } ∧
      ChangesOnly [.now, .responder, .output] s t)) ∧
  (∀ (s : State) (d : Nat),
    s.responder.keepAlive = some d →
    s.role = .dock → evacLive s.cycle.state = true → s.drive.state.running = true → ReportsFit s →
    Completes (.keepaliveExpiry) s (fun t =>
      t.now = s.atDeadline d ∧
      t.responder = { s.responder with keepAlive := none } ∧
      t.output = { s.output with
        permission := false, duty := 0, period := none, stale := 0, pAllow := s.output.busLimit,
        iApp := appliedCurrent s.output.iRequested s.output.iMax s.output.busLimit s.output.vLim,
        status := if outputInhibited s then .fault else .off } ∧
      StopMade .evacAborted s t ∧
      t.cycle = { s.cycle with
        state := .aborted, reason := some .linkSilent, elapsed := cycleElapsed ({ s with now := t.now } : State),
        timer := none } ∧
      Queued s t (stopReportsOf .evacAborted s t ++ [{
        kind := .evacuation, sub := 2, time := t.partTime,
        data := [byteOf (cycleElapsed ({ s with now := t.now } : State)), 4] }]) ∧
      ChangesOnly [.now, .responder, .output, .cycle, .drive, .motor, .dirt, .fill, .reports, .lost] s t)) ∧
  (∀ (s : State) (d : Nat),
    s.responder.keepAlive = some d →
    s.role = .dock → evacLive s.cycle.state = true → s.drive.state.running = false → ReportsFit s →
    Completes (.keepaliveExpiry) s (fun t =>
      t.now = s.atDeadline d ∧
      t.responder = { s.responder with keepAlive := none } ∧
      t.output = { s.output with
        permission := false, duty := 0, period := none, stale := 0,
        status := if outputInhibited s then .fault else .off } ∧
      t.cycle = { s.cycle with
        state := .aborted, reason := some .linkSilent, elapsed := cycleElapsed ({ s with now := t.now } : State),
        timer := none } ∧
      Queued s t [{
        kind := .evacuation, sub := 2, time := t.partTime,
        data := [byteOf (cycleElapsed ({ s with now := t.now } : State)), 4] }] ∧
      t.drive =
        { s.drive with armed := false, pendingStart := false, trigOn := s.drive.trigOn && (s.driveCfg.mode == .hold) }
        ∧
      ChangesOnly [.now, .responder, .output, .cycle, .drive, .fill, .reports, .lost] s t)) ∧
  (∀ (s : State) (d : Nat),
    s.responder.candidate = some d →
    s.role = .dock → s.responder.present = true → evacLive s.cycle.state = false →
    Completes (.stickAbsentQualified) s (fun t =>
      t.now = s.atDeadline d ∧
      t.responder = { s.responder with present := false, candidate := none } ∧
      t.output = { s.output with
        permission := false, duty := 0, period := none, stale := 0,
        status := if outputInhibited s then .fault else .off } ∧
      ChangesOnly [.now, .responder, .output] s t)) ∧
  (∀ (s : State) (d : Nat),
    s.responder.candidate = some d →
    s.role = .dock → s.responder.present = true → evacLive s.cycle.state = true → s.drive.state.running = true →
    ReportsFit s →
    Completes (.stickAbsentQualified) s (fun t =>
      t.now = s.atDeadline d ∧
      t.responder = { s.responder with present := false, candidate := none } ∧
      t.output = { s.output with
        permission := false, duty := 0, period := none, stale := 0, pAllow := s.output.busLimit,
        iApp := appliedCurrent s.output.iRequested s.output.iMax s.output.busLimit s.output.vLim,
        status := if outputInhibited s then .fault else .off } ∧
      StopMade .evacAborted s t ∧
      t.cycle = { s.cycle with
        state := .aborted, reason := some .stickRemoved, elapsed := cycleElapsed ({ s with now := t.now } : State),
        timer := none } ∧
      Queued s t (stopReportsOf .evacAborted s t ++ [{
        kind := .evacuation, sub := 2, time := t.partTime,
        data := [byteOf (cycleElapsed ({ s with now := t.now } : State)), 5] }]) ∧
      ChangesOnly [.now, .responder, .output, .cycle, .drive, .motor, .dirt, .fill, .reports, .lost] s t)) ∧
  (∀ (s : State) (d : Nat),
    s.responder.candidate = some d →
    s.role = .dock → s.responder.present = true → evacLive s.cycle.state = true → s.drive.state.running = false →
    ReportsFit s →
    Completes (.stickAbsentQualified) s (fun t =>
      t.now = s.atDeadline d ∧
      t.responder = { s.responder with present := false, candidate := none } ∧
      t.output = { s.output with
        permission := false, duty := 0, period := none, stale := 0,
        status := if outputInhibited s then .fault else .off } ∧
      t.cycle = { s.cycle with
        state := .aborted, reason := some .stickRemoved, elapsed := cycleElapsed ({ s with now := t.now } : State),
        timer := none } ∧
      Queued s t [{
        kind := .evacuation, sub := 2, time := t.partTime,
        data := [byteOf (cycleElapsed ({ s with now := t.now } : State)), 5] }] ∧
      t.drive =
        { s.drive with armed := false, pendingStart := false, trigOn := s.drive.trigOn && (s.driveCfg.mode == .hold) }
        ∧
      ChangesOnly [.now, .responder, .output, .cycle, .drive, .fill, .reports, .lost] s t)) ∧
  (∀ (s : State) (d : Nat),
    s.cycle.timer = some d →
    s.role = .dock → s.drive.state.running = true → ReportsFit s →
    Completes (.durationExpiry) s (fun t =>
      t.now = s.atDeadline d ∧
      StopMade .evacComplete s t ∧
      t.cycle = { s.cycle with state := .done, elapsed := s.cycle.duration, timer := none } ∧
      t.output = { s.output with
        pAllow := s.output.busLimit,
        iApp := appliedCurrent s.output.iRequested s.output.iMax s.output.busLimit s.output.vLim,
        status := t.output.status } ∧
      Queued s t (stopReportsOf .evacComplete s t ++
        [{ kind := .evacuation, sub := 1, time := t.partTime, data := [byteOf s.cycle.duration, 0] }]) ∧
      ChangesOnly [.now, .output, .cycle, .drive, .motor, .dirt, .fill, .reports, .lost] s t))

/-- The output loop (R167, R168), with the end of OUTPUT_OVERVOLT by a DOCK_V value delivered to the output. OUTPUT_STALE_LIMIT acts with nine stale periods counted: the model's choice (log entry
7). -/
def Obligations.OutputPeriodsMoveTheDuty : Prop :=
  (∀ (s : State) (d : Nat),
    let s1 := ({ s with now := max s.now d } : State)
    s.output.period = some d →
    s.role = .dock → NoPortAlone s →
    (s.chan .dockV).valid = true ∧ (s.chan .outI).valid = true ∧
    (s1.age (s.chan .dockV).time < 2 ∧ s1.age (s.chan .outI).time < 2) →
    (s.chan .dockV).value ≤ s.output.vLim + 500 →
    Completes (.outputPeriod) s (fun t =>
      t.now = s.atDeadline d ∧
      t.output.vOut = (s.chan .dockV).value ∧ t.output.iOut = (s.chan .outI).value ∧
      t.output.duty =
        max 0 (min 950 (s.output.duty + min (max (-10) (min 5 ((s.output.vLim - t.output.vOut).tdiv 50))) (max (-10)
          (min 5 ((t.output.iApp - t.output.iOut).tdiv 20))))) ∧
      t.output.stale = 0 ∧ t.output.period = some (d + 1000000) ∧
      t.output.pAllow = s.output.busLimit - (if s.drive.state.running then s.drive.pCeil else 0) ∧
      t.output.iApp = appliedCurrent s.output.iRequested s.output.iMax t.output.pAllow s.output.vLim ∧
      t.output.status =
        (if outputInhibited t then .fault else if t.output.permission = false then .off else if t.output.iApp <
          t.output.iRequested then .limited else .on) ∧
      t.output.permission = s.output.permission ∧ t.output.vLim = s.output.vLim ∧
      t.output.iRequested = s.output.iRequested ∧ t.output.busLimit = s.output.busLimit ∧
      t.output.iMax = s.output.iMax ∧ t.output.recovery = s.output.recovery ∧
      ChangesOnly [.now, .output, .seq] s t)) ∧
  (∀ (s : State) (d : Nat),
    let s1 := ({ s with now := max s.now d } : State)
    s.output.period = some d →
    s.role = .dock → NoPortAlone s →
    (s.chan .dockV).valid = true ∧ (s.chan .outI).valid = true ∧
    (s1.age (s.chan .dockV).time < 2 ∧ s1.age (s.chan .outI).time < 2) →
    s.output.vLim + 500 < (s.chan .dockV).value → condActive s .outputOvervolt = false →
    s.power.standbyPending = false → ReportsFit s →
    Completes (.outputPeriod) s (fun t =>
      t.now = s.atDeadline d ∧
      t.output.vOut = (s.chan .dockV).value ∧ t.output.iOut = (s.chan .outI).value ∧
      t.output.permission = false ∧ t.output.duty = 0 ∧ t.output.stale = 0 ∧ t.output.period = none ∧
      t.output.recovery = some (t.now + 1000000) ∧
      t.output.pAllow = s.output.busLimit - (if s.drive.state.running then s.drive.pCeil else 0) ∧
      t.output.iApp = appliedCurrent s.output.iRequested s.output.iMax t.output.pAllow s.output.vLim ∧
      t.output.status =
        (if outputInhibited t then .fault else if t.output.permission = false then .off else if t.output.iApp <
          t.output.iRequested then .limited else .on) ∧
      Raised .outputOvervolt (some (.number (s.chan .dockV).value)) s t ∧
      Queued s t [raisedReportOf .outputOvervolt (some (.number (s.chan .dockV).value)) s t] ∧
      ChangesOnly [.now, .output, .seq, .conds, .reports, .lost] s t)) ∧
  (∀ (s : State) (d : Nat),
    let s1 := ({ s with now := max s.now d } : State)
    s.output.period = some d →
    s.role = .dock → NoPortAlone s →
    ¬ ((s.chan .dockV).valid = true ∧ (s.chan .outI).valid = true ∧ (s1.age (s.chan .dockV).time < 2 ∧ s1.age (s.chan
      .outI).time < 2)) →
    Completes (.outputPeriod) s (fun t =>
      t.now = s.atDeadline d ∧
      t.output.vOut = s.output.vOut ∧ t.output.iOut = s.output.iOut ∧
      t.output.duty = (if 10 ≤ s.output.stale + 1 then 0 else s.output.duty) ∧
      t.output.stale = (if 10 ≤ s.output.stale + 1 then 0 else s.output.stale + 1) ∧
      t.output.period = some (d + 1000000) ∧
      t.output.pAllow = s.output.busLimit - (if s.drive.state.running then s.drive.pCeil else 0) ∧
      t.output.iApp = appliedCurrent s.output.iRequested s.output.iMax t.output.pAllow s.output.vLim ∧
      t.output.status =
        (if outputInhibited t then .fault else if t.output.permission = false then .off else if t.output.iApp <
          t.output.iRequested then .limited else .on) ∧
      t.output.permission = s.output.permission ∧ t.output.vLim = s.output.vLim ∧
      t.output.iRequested = s.output.iRequested ∧ t.output.busLimit = s.output.busLimit ∧
      t.output.iMax = s.output.iMax ∧ t.output.recovery = s.output.recovery ∧
      ChangesOnly [.now, .output, .seq] s t)) ∧
  (∀ (s : State),
    s.output.permission = true → 9 ≤ s.output.stale →
    ((s.chan .dockV).valid = false ∨ (s.chan .outI).valid = false ∨ 2 ≤ s.age (s.chan .dockV).time ∨ 2 ≤ s.age (s.chan
      .outI).time) →
    Completes (.outputStaleLimit) s (fun t =>
      t.output = { s.output with duty := 0, stale := 0 } ∧
      ChangesOnly [.output] s t)) ∧
  (∀ (s : State) (d : Nat),
    s.output.recovery = some d →
    NoPortAlone s →
    Completes (.recoveryTimerExpiry) s (fun t =>
      t.now = s.atDeadline d ∧
      t.output = { s.output with recovery := some (d + 1000000) } ∧
      (s.seq.queue.length < 12 → (t.seq.queue.any (fun e => e.chan == .dockV && e.set.output) || t.seq.inFlight.any
        (fun f => f.chan == .dockV && f.set.output)) = true) ∧
      ChangesOnly [.now, .output, .seq] s t)) ∧
  (∀ (s : State) (codes : Vector (BitVec 12) 8) (f : Conversion),
    s.seq.inFlight = some f →
    s.fastUp = true → s.role = .dock → f.chan = .dockV → f.set.output = true → f.set.pack = false →
    f.set.dock = false → condActive s .outputOvervolt = true → ReportsFit s →
    Completes (.conversionCompletion codes) s (fun t =>
      let ends := (t.chan .dockV).value ≤ s.output.vLim
      t.now = s.atDeadline f.endsAt ∧
      t.output =
        (if ends then { s.output with
          recovery := none,
          status :=
            if outputInhibited t then .fault else if s.output.permission = false then .off else if s.output.iApp <
              s.output.iRequested then .limited else .on } else s.output) ∧
      (if ends then Ended .outputOvervolt s t else t.conds = s.conds) ∧
      Watched (.chan .dockV) (t.chan .dockV).value s t ∧
      Queued s t (firedReports (.chan .dockV) (t.chan .dockV).value s t ++
        (if ends then [endedReportOf .outputOvervolt s t] else []) ++ (if f.set.port then [measurementOf f t] else [])) ∧
      ChangesOnly [.now, .power, .seq, .watches, .output, .conds, .reports, .lost] s t))

/-- CONFIGURE_SUPPLY (R169). -/
def Obligations.SupplySettingsMoveTheBudget : Prop :=
  (∀ (s : State) (tag : Byte) (b i : BitVec 16),
    let bus := max 100 (min 600 (b.toNat : Int))
    let imax := max 500 (min 3000 (i.toNat : Int))
    Listening s → s.role = .dock → s.drive.state.running = true → bus ≠ s.output.busLimit →
    Completes (.configureSupply tag b i) s (fun t =>
      Replied (received s) t 0x28 tag (if bus = b.toNat ∧ imax = i.toNat then .ok else .okClamped) (le2 bus ++ le2
        imax) ∧
      t.output = { s.output with
        busLimit := bus, iMax := imax, pAllow := bus - (if s.drive.state.running then t.drive.pCeil else 0),
        iApp := appliedCurrent s.output.iRequested imax t.output.pAllow s.output.vLim, status := t.output.status } ∧
      t.output.status =
        (if outputInhibited t then .fault else if t.output.permission = false then .off else if t.output.iApp <
          t.output.iRequested then .limited else .on) ∧
      CeilingLeast t ∧
      t.drive = { s.drive with pCeil := t.drive.pCeil, limit := t.drive.limit } ∧
      ChangesOnly [.port, .free, .output, .drive] (received s) t)) ∧
  (∀ (s : State) (tag : Byte) (b i : BitVec 16),
    let bus := max 100 (min 600 (b.toNat : Int))
    let imax := max 500 (min 3000 (i.toNat : Int))
    Listening s → s.role = .dock → (s.drive.state.running = false ∨ bus = s.output.busLimit) →
    Completes (.configureSupply tag b i) s (fun t =>
      Replied (received s) t 0x28 tag (if bus = b.toNat ∧ imax = i.toNat then .ok else .okClamped) (le2 bus ++ le2
        imax) ∧
      t.output = { s.output with
        busLimit := bus, iMax := imax, pAllow := bus - (if s.drive.state.running then t.drive.pCeil else 0),
        iApp := appliedCurrent s.output.iRequested imax t.output.pAllow s.output.vLim, status := t.output.status } ∧
      t.output.status =
        (if outputInhibited t then .fault else if t.output.permission = false then .off else if t.output.iApp <
          t.output.iRequested then .limited else .on) ∧
      ChangesOnly [.port, .free, .output] (received s) t)) ∧
  (∀ (s : State) (tag : Byte) (b i : BitVec 16),
    Listening s → s.role = .handle →
    Completes (.configureSupply tag b i) s (fun t =>
      Answered s t 0x28 tag .wrongRole [] []))

/-- Reception, validation and the silence monitor (R176, R177, R179, R181), and the byte that woke the part, which is lost
(R193). -/
def Obligations.PortReceivesFrames : Prop :=
  (∀ (s : State),
    s.power.state = .active → s.power.fast = .running → byteLost s = false → s.power.standbyPending = false →
    s.port.rx = .hunt →
    Completes (.hostByteReceived 0xC3) s (fun t =>
      t.port = { s.port with rx := .length, gap := some (s.now + 5000000) } ∧
      ChangesOnly [.port] s t)) ∧
  (∀ (s : State) (b : Byte),
    s.power.state = .active → s.power.fast = .running → byteLost s = false → s.power.standbyPending = false →
    s.port.rx = .hunt →
    b ≠ 0xC3 →
    Completes (.hostByteReceived b) s (fun t => t = s)) ∧
  (∀ (s : State) (b : Byte),
    s.power.state = .active → s.power.fast = .running → byteLost s = false → s.power.standbyPending = false →
    s.port.rx = .length →
    2 ≤ b.toNat ∧ b.toNat ≤ 62 →
    Completes (.hostByteReceived b) s (fun t =>
      t.port = { s.port with rx := .body b.toNat [], gap := some (s.now + 5000000) } ∧
      ChangesOnly [.port] s t)) ∧
  (∀ (s : State) (b : Byte),
    s.power.state = .active → s.power.fast = .running → byteLost s = false → s.power.standbyPending = false →
    s.port.rx = .length →
    (b.toNat < 2 ∨ 62 < b.toNat) →
    Completes (.hostByteReceived b) s (fun t =>
      t.port = { s.port with rx := .hunt, gap := none } ∧
      ChangesOnly [.port] s t)) ∧
  (∀ (s : State) (b : Byte) (len : Nat) (bs : List Byte),
    s.power.state = .active → s.power.fast = .running → byteLost s = false → s.power.standbyPending = false →
    s.port.rx = .body len bs →
    bs.length < len →
    Completes (.hostByteReceived b) s (fun t =>
      t.port = { s.port with rx := .body len (bs ++ [b]), gap := some (s.now + 5000000) } ∧
      ChangesOnly [.port] s t)) ∧
  (∀ (s : State) (b : Byte) (bs : List Byte),
    s.power.state = .active → s.power.fast = .running → byteLost s = false → s.power.standbyPending = false →
    s.port.rx = .body bs.length bs → ¬ ((bs ++ [b]).foldl (· + ·) (BitVec.ofNat 8 bs.length) = 0) →
    Completes (.hostByteReceived b) s (fun t =>
      t.port = { s.port with rx := .hunt, gap := none } ∧
      ChangesOnly [.port] s t)) ∧
  (∀ (s : State) (b : Byte) (bs : List Byte),
    s.power.state = .active → s.power.fast = .running → s.power.standbyPending = false →
    s.port.rx = .body bs.length bs → ¬ ((bs ++ [b]).foldl (· + ·) (BitVec.ofNat 8 bs.length) = 0) →
    Completes (.hostFrameReceived b) s (fun t =>
      t.port = { s.port with rx := .hunt, gap := none } ∧
      ChangesOnly [.port] s t)) ∧
  (∀ (s : State) (k tag : Byte) (p : List Byte),
    let s1 := ({ s with port := { s.port with rx := .hunt, gap := none } } : State)
    let l := [k, tag] ++ p
    s.power.state = .active → s.power.fast = .running → byteLost s = false → s.port.rx = .body l.length l →
    s.port.reply = none →
    s.port.buffer = [] → (∀ n : ReqKind, n.byte = k → p.length ≠ n.payloadLen) →
    Completes (.hostByteReceived (0 - l.foldl (· + ·) (BitVec.ofNat 8 l.length))) s (fun t =>
      Answered s1 t k tag (if ReqKind.ofByte k = none then .unknownKind else .invalid) [] [])) ∧
  (∀ (s : State) (k tag : Byte) (p : List Byte),
    let s1 := ({ s with port := { s.port with rx := .hunt, gap := none } } : State)
    let l := [k, tag] ++ p
    s.power.state = .active → s.power.fast = .running → byteLost s = false → s.port.rx = .body l.length l →
    (s.port.reply.isSome = true ∨ s.port.buffer ≠ []) → s.port.buffer.length < 2 →
    Completes (.hostByteReceived (0 - l.foldl (· + ·) (BitVec.ofNat 8 l.length))) s (fun t =>
      t.port = { (received s1).port with
        buffer := s.port.buffer ++ [{ len := l.length, kind := k, tag := tag, payload := p }] } ∧
      ChangesOnly [.port] (received s1) t)) ∧
  (∀ (s : State) (k tag : Byte) (p : List Byte),
    let s1 := ({ s with port := { s.port with rx := .hunt, gap := none } } : State)
    let l := [k, tag] ++ p
    s.power.state = .active → s.power.fast = .running → byteLost s = false → s.port.rx = .body l.length l →
    2 ≤ s.port.buffer.length →
    Completes (.hostByteReceived (0 - l.foldl (· + ·) (BitVec.ofNat 8 l.length))) s (fun t =>
      t.port = { (received s1).port with overrun := true } ∧
      ChangesOnly [.port] (received s1) t)) ∧
  (∀ (s : State) (k tag : Byte) (p : List Byte),
    let s1 := ({ s with port := { s.port with rx := .hunt, gap := none } } : State)
    let l := [k, tag] ++ p
    s.power.state = .active → s.power.fast = .running → s.port.rx = .body l.length l → s.port.reply = none →
    s.port.buffer = [] → (∀ n : ReqKind, n.byte = k → p.length ≠ n.payloadLen) →
    Completes (.hostFrameReceived (0 - l.foldl (· + ·) (BitVec.ofNat 8 l.length))) s (fun t =>
      Answered s1 t k tag (if ReqKind.ofByte k = none then .unknownKind else .invalid) [] [])) ∧
  (∀ (s : State) (k tag : Byte) (p : List Byte),
    let s1 := ({ s with port := { s.port with rx := .hunt, gap := none } } : State)
    let l := [k, tag] ++ p
    s.power.state = .active → s.power.fast = .running → s.port.rx = .body l.length l →
    (s.port.reply.isSome = true ∨ s.port.buffer ≠ []) → s.port.buffer.length < 2 →
    Completes (.hostFrameReceived (0 - l.foldl (· + ·) (BitVec.ofNat 8 l.length))) s (fun t =>
      t.port = { (received s1).port with
        buffer := s.port.buffer ++ [{ len := l.length, kind := k, tag := tag, payload := p }] } ∧
      ChangesOnly [.port] (received s1) t)) ∧
  (∀ (s : State) (k tag : Byte) (p : List Byte),
    let s1 := ({ s with port := { s.port with rx := .hunt, gap := none } } : State)
    let l := [k, tag] ++ p
    s.power.state = .active → s.power.fast = .running → s.port.rx = .body l.length l → 2 ≤ s.port.buffer.length →
    Completes (.hostFrameReceived (0 - l.foldl (· + ·) (BitVec.ofNat 8 l.length))) s (fun t =>
      t.port = { (received s1).port with overrun := true } ∧
      ChangesOnly [.port] (received s1) t)) ∧
  (∀ (s : State) (b : Byte) (w : Nat),
    s.port.wakeByte = some w → s.now ≤ w →
    Completes (.hostByteReceived b) s (fun t =>
      t.port = { s.port with wakeByte := none } ∧
      ChangesOnly [.port] s t)) ∧
  (∀ (s : State) (d : Nat),
    s.port.gap = some d →
    Completes (.hostFrameGapTimeout false) s (fun t =>
      t.now = s.atDeadline d ∧
      t.port = { s.port with rx := .hunt, gap := none } ∧
      ChangesOnly [.now, .port] s t)) ∧
  (∀ (s : State) (d : Nat),
    s.port.gap = some d →
    s.power.standbyPending = false →
    Completes (.hostFrameGapTimeout true) s (fun t =>
      t.port = { s.port with rx := .hunt, gap := none } ∧
      ChangesOnly [.port] s t)) ∧
  (∀ (s : State) (d : Nat),
    s.port.silence = some d →
    s.drive.state.running = false →
    Completes (.silenceTimerExpiry) s (fun t =>
      t.now = s.atDeadline d ∧
      t.port = { s.port with silence := none, silent := true } ∧
      ChangesOnly [.now, .port] s t)) ∧
  (∀ (s : State) (d : Nat),
    s.port.silence = some d →
    s.role = .handle → s.power.standbyPending = false → condActive s .portSilent = false →
    s.drive.state.running = true → ReportsFit s →
    Completes (.silenceTimerExpiry) s (fun t =>
      t.now = s.atDeadline d ∧
      t.port = { s.port with silence := none, silent := true } ∧
      Raised .portSilent none s t ∧
      StopMade .portSilent s t ∧
      Queued s t (raisedReportOf .portSilent none s t :: stopReportsOf .portSilent s t) ∧
      ChangesOnly [.now, .port, .conds, .drive, .motor, .dirt, .reports, .lost] s t)) ∧
  (∀ (s : State),
    s.role = .handle →
    (received s).port.silence = some (s.now + 500000000) ∧ (received s).port.silent = false ∧
    condActive (received s) .portSilent = false)

/-- Reception composed with every request (R175, R176, R195). Log entry 2 says what a request command stands for. -/
def Obligations.FrameBytesMakeTheRequest : Prop :=
  (∀ (s : State) (c : Instr) (f : Frame),
    requestFrame c = some f →
    s.power.state = .active → s.power.fast = .running → s.port.rx = .hunt → s.port.gap = none →
    receiveAll (frameBytes f) s = afterCommand c s) ∧
  (∀ (c : Instr) (f : Frame),
    requestFrame c = some f →
    f.len = f.payload.length + 2 ∧ f.len ≤ 62 ∧ (frameBytes f).take 2 = [0xC3, BitVec.ofNat 8 f.len] ∧
    (frameBytes f).length = f.len + 3 ∧ ((frameBytes f).drop 1).foldl (· + ·) 0 = (0 : Byte))

/-- The requests that read (R183 to R185, R196), and the reply frame (R175, R180, R195). The codes of the snapshot bytes, and
what the records of ER and G carry, are log entry 8; the bytes that a report record leaves open log entry 5; and that the
dock is silent exactly while its keep-alive timer is stopped log entry 14. -/
def Obligations.ReadRequestsAnswer : Prop :=
  (∀ (s : State) (tag : Byte),
    Listening s →
    Completes (.identify tag) s (fun t =>
      Answered s t 0x01 tag .ok ([0x52, 0x65, 0x62, 0x73, 0x69, 0x6C, 0x61, 0x0B, 0x10, 0x01, if s.role = .handle then
        0 else 1] ++ le4 s.trim.serial.toNat ++ [if s.power.trimPassed then 1 else 0, byteOf s.power.cause.code] ++
        le4 s.partTime.toNat) [])) ∧
  (∀ (s : State) (tag : Byte),
    Listening s →
    Completes (.keepalive tag) s (fun t =>
      Answered s t 0x04 tag .ok (le4 s.partTime.toNat) [])) ∧
  (∀ (s : State) (tag : Byte),
    let q := (received s).reports
    Listening s →
    Completes (.fetchReports tag) s (fun t =>
      t.reports = q.drop 4 ∧ t.lost = false ∧
      Answered s t 0x03 tag .ok ((q.take 4).zipIdx.flatMap (fun x => [byteOf x.1.kind.code, byteOf x.1.sub] ++ le4
        x.1.time.toNat ++ x.1.data ++ (List.range (6 - x.1.data.length)).map (Config.reportPad (s.free + x.2))) ++
        [byteOf (q.length - 4 : Nat), if (received s).lost then 1 else 0]) [.reports, .lost])) ∧
  (∀ (s : State) (tag b : Byte),
    let n :=
      (if b.toNat % 16 = 0 then 1
       else if b.toNat % 16 = 1 ∨ b.toNat % 16 = 2 then (if s.role = .handle then 2 else 1)
            else if b.toNat % 16 = 3 then 3 else if b.toNat % 16 = 4 then 1 else 0 : Nat)
    Listening s → n ≤ b.toNat / 16 →
    Completes (.getStatus tag b) s (fun t =>
      Answered s t 0x02 tag .invalid [] [])) ∧
  (∀ (s : State) (tag b : Byte),
    let n :=
      (if b.toNat % 16 = 0 then 1
       else if b.toNat % 16 = 1 ∨ b.toNat % 16 = 2 then (if s.role = .handle then 2 else 1)
            else if b.toNat % 16 = 3 then 3 else if b.toNat % 16 = 4 then 1 else 0 : Nat)
    let pages := snapshotPages (b.toNat % 16) s
    Listening s → b.toNat / 16 < n →
    Completes (.getStatus tag b) s (fun t =>
      b.toNat / 16 < pages.length ∧ (pages.getD (b.toNat / 16) []).length ≤ 58 ∧
      Answered s t 0x02 tag .ok (pages.getD (b.toNat / 16) []) [])) ∧
  (∀ (s : State) (tag : Byte),
    Listening s →
    Completes (.getStatus tag 0) s (fun t =>
      Answered s t 0x02 tag .ok ([byteOf s.drive.state.code] ++ s.drive.mode.bytes ++ [if s.drive.armed then 1 else 0,
        if s.drive.trigPressed then 0 else 1, if s.drive.trigOn then 1 else 0, if s.drive.pendingStart then 1 else 0]
        ++ le4 s.drive.nTgt ++ le4 s.drive.nEff ++ le4 s.drive.nMeas ++ le4 s.drive.duty ++ le4 s.drive.pMeas ++ le4
        s.drive.pCeil ++ [byteOf s.drive.limit.code, lastStopByte s.drive.lastStop] ++ le4 s.drive.runStart.toNat ++
        le4 s.drive.startCharge ++ [byteOf s.drive.stale, byteOf s.drive.lowSpeed, byteOf s.drive.overcurrent, byteOf
        (levelInUse s), byteOf s.driveCfg.rejectMs, byteOf s.driveCfg.mode.code, byteOf s.driveCfg.threshold] ++ le2
        s.driveCfg.pMax ++ le2 s.driveCfg.vDerate ++ le2 s.driveCfg.vFloor) [])) ∧
  (∀ (s : State) (tag : Byte),
    let v := s.pack
    Listening s → s.role = .handle →
    Completes (.getStatus tag 0x01) s (fun t =>
      Answered s t 0x02 tag .ok (le4 v.cells[0] ++ le4 v.cells[1] ++ le4 v.cells[2] ++ le4 v.cells[3] ++ le4 v.cells[4]
        ++ le4 v.cells[5] ++ le4 v.cells[6] ++ le4 v.vmin ++ [byteOf v.vminCell] ++ le4 v.vmax ++ [byteOf v.vmaxCell,
        if v.valid then 1 else 0]) [])) ∧
  (∀ (s : State) (tag : Byte),
    let v := s.pack
    let c := s.counter
    Listening s → s.role = .handle →
    Completes (.getStatus tag 0x11) s (fun t =>
      Answered s t 0x02 tag .ok (le4 v.packMv ++ le4 v.packMa ++ le4 v.packT ++ le4 v.bridgeT ++ le4 v.time.toNat ++
        le4 c.q ++ le4 c.residual ++ [byteOf c.soc, byteOf c.origin.code] ++ le4 c.capacity) [])) ∧
  (∀ (s : State) (tag : Byte),
    let v := s.supply
    Listening s → s.role = .dock →
    Completes (.getStatus tag 0x01) s (fun t =>
      Answered s t 0x02 tag .ok (le4 v.busMv ++ le4 v.ambientT ++ le4 v.bridgeT ++ le4 v.time.toNat ++ [if v.valid then
        1 else 0]) [])) ∧
  (∀ (s : State) (tag : Byte),
    let c := s.session
    let left := fun d : Option Nat =>
      match d with | none => ([0xFF, 0xFF, 0xFF, 0xFF] : List Byte) | some x => le4 ((x - s.now) / 1000000 : Nat)
    Listening s → s.role = .handle →
    Completes (.getStatus tag 0x02) s (fun t =>
      Answered s t 0x02 tag .ok ([byteOf c.phase.code, match c.reason with | none => 0xFF | some r => byteOf r.code] ++
        le4 c.request ++ le4 c.vLimit ++ [if c.switchClosed then 1 else 0, byteOf (c.balance.getD 0 0), byteOf
        (c.balance.getD 1 0), byteOf (c.balance.getD 2 0)] ++ le4 c.start.toNat ++ le4 c.phaseEntry.toNat ++ left
        c.precharge ++ left c.topBalance ++ left c.limit ++ le4 c.termination) [])) ∧
  (∀ (s : State) (tag : Byte),
    let c := s.session
    let left := fun d : Option Nat =>
      match d with | none => ([0xFF, 0xFF, 0xFF, 0xFF] : List Byte) | some x => le4 ((x - s.now) / 1000000 : Nat)
    Listening s → s.role = .handle →
    Completes (.getStatus tag 0x12) s (fun t =>
      Answered s t 0x02 tag .ok (le4 c.dock.vLim ++ le4 c.dock.iLim ++ le4 c.dock.vOut ++ le4 c.dock.iOut ++ [byteOf
        (outStatusCode c.dock.status)] ++ left c.dockTimer ++ left c.restart ++ le4 s.chargeCfg.iCc ++ le4
        s.chargeCfg.vCellFull ++ [if s.dockCfg.chargingEnabled then 1 else 0]) [])) ∧
  (∀ (s : State) (tag : Byte) (page : Fin 3),
    let e := s.fill.electrodes
    let full := fun x : Electrode => le4 x.baseline ++ le4 x.raw ++ le4 x.delta ++ [if x.covered then 1 else 0]
    let short := fun x : Electrode => le4 x.baseline ++ le4 x.raw
    let f := s.fill
    let h := decide (s.role = .handle)
    Listening s →
    Completes (.getStatus tag (BitVec.ofNat 8 (16 * page.val + 3))) s (fun t =>
      Answered s t 0x02 tag .ok
        (if page = 0 then full e[0] ++ full e[1] ++ full e[2] ++ full e[3]
         else if page = 1 then full e[4] ++ full e[5] ++ short e[6] ++ short e[7]
         else
           [byteOf f.rawLevel, byteOf f.debounced, match f.candidate with | none => 0xFF | some n => byteOf n, byteOf
             f.candCount, byteOf f.absent, byteOf f.present, if f.rebasePending then 1 else 0, if f.scan.isSome then 1
             else 0] ++ le4 f.time.toNat ++ [byteOf (if h then s.dirt.grade else 0)] ++ le4 (if h then s.dirt.rate else
             0) ++ [byteOf (if h then s.dirt.ring.length else 0)] ++ le4 (if h then s.dirt.total else 0 : Nat)) [])) ∧
  (∀ (s : State) (tag : Byte),
    let l := s.link
    let i := l.identity
    let bit := fun (b : Bool) (n : Nat) => if b then n else 0
    let kind := match l.exchange with | none => (0xFF : Byte) | some e => byteOf e.kind.code
    let ended := match l.lastEvacEnd with | none => ([0xFF, 0xFF, 0xFF, 0xFF] : List Byte) | some x => le4 x.toNat
    let count := match l.postCount with | none => (0xFF : Byte) | some n => byteOf n
    Listening s → s.role = .handle →
    Completes (.getStatus tag 0x04) s (fun t =>
      Answered s t 0x02 tag .ok ([(if l.docked then 1 else 0 : Byte)] ++ le4 l.dockedTime.toNat ++ [byteOf l.state.code,
        byteOf l.failures, byteOf l.lastOutcome.code, kind, byteOf (bit l.pend.ident 1 + bit l.pend.setpoint 2 + bit
        l.pend.evacStart 4 + bit l.pend.evacQuery 8 + bit l.pend.evacStop 16), i.revision] ++ bytes2 i.vMaxOut ++
        bytes2 i.iMaxOut ++ bytes2 i.busLimit ++ [if i.fitted then 1 else 0, i.bagLevel, if i.bagFull then 1 else 0,
        byteOf (evacStateCode i.evac)] ++ le4 l.contactMv ++ [byteOf l.evac.code, if l.stopPending then 1 else 0, if
        l.readopt then 1 else 0] ++ ended ++ [count]) [])) ∧
  (∀ (s : State) (tag : Byte),
    Listening s → s.role = .dock →
    Completes (.getStatus tag 2) s (fun t =>
      Answered s t 0x02 tag .ok ([if s.output.permission then 1 else 0] ++ le4 s.output.vLim ++ le4
        s.output.iRequested ++ le4 s.output.iApp ++ le4 s.output.pAllow ++ le4 s.output.duty ++ [byteOf (outStatusCode
        s.output.status)] ++ le4 s.output.vOut ++ le4 s.output.iOut ++ [byteOf s.output.stale] ++ le4
        s.output.busLimit ++ le4 s.output.iMax) [])) ∧
  (∀ (s : State) (tag : Byte),
    Listening s → s.role = .dock →
    Completes (.getStatus tag 4) s (fun t =>
      Answered s t 0x02 tag .ok ([if s.responder.present then 0 else 1, if s.responder.keepAlive = none then 1 else 0]
        ++
        (match s.responder.lastValid with | none => [0xFF, 0xFF, 0xFF, 0xFF] | some x => le4 (s.partTime - x).toNat)
        ++ [byteOf (evacStateCode s.cycle.state), cycleReasonByte s.cycle.reason, byteOf s.cycle.duration] ++ le4
        s.cycle.runningSince.toNat ++ [byteOf (cycleElapsed s)]) [])) ∧
  (∀ (s : State) (x : Byte) (r : Reply),
    s.port.reply = some r →
    (replyFrame x r).take 5 = [0xC3, BitVec.ofNat 8 (r.payload.length + 4), r.kind, r.tag, byteOf r.status.code] ∧
    (byteAt (replyFrame x r) 5 &&& 7) =
      (if r.reportsPending then 1 else 0) + (if r.overrun then 2 else 0) + (if r.role = .handle then 0 else 4) ∧
    ((replyFrame x r).drop 6).take r.payload.length = r.payload ∧
    ((replyFrame x r).drop 1).foldl (· + ·) 0 = (0 : Byte))

/-- The buffer and the order of service (R177 to R180). That a request command with the receiver off, or amid a frame,
changes nothing is log entry 2. -/
def Obligations.RequestsWaitAndAreTakenInOrder : Prop :=
  (∀ (s : State) (c : Instr) (f : Frame),
    requestFrame c = some f →
    Listening s → wrongRole f.kind s.role = true →
    Completes (c) s (fun t =>
      Answered s t f.kind f.tag .wrongRole [] [])) ∧
  (∀ (s : State) (c : Instr) (f : Frame),
    requestFrame c = some f →
    s.power.state = .active → s.power.fast = .running → byteLost s = false → s.port.rx = .hunt →
    (s.port.reply.isSome = true ∨ s.port.buffer ≠ []) → s.port.buffer.length < 2 →
    Completes (c) s (fun t =>
      t.port = { (received s).port with buffer := s.port.buffer ++ [f] } ∧
      ChangesOnly [.port] (received s) t)) ∧
  (∀ (s : State) (c : Instr) (f : Frame),
    requestFrame c = some f →
    s.power.state = .active → s.power.fast = .running → byteLost s = false → s.port.rx = .hunt →
    2 ≤ s.port.buffer.length →
    Completes (c) s (fun t =>
      t.port = { (received s).port with overrun := true } ∧
      ChangesOnly [.port] (received s) t)) ∧
  (∀ (s : State) (c : Instr) (f : Frame),
    requestFrame c = some f →
    (s.power.state ≠ .active ∨ s.power.fast ≠ .running ∨ s.port.rx ≠ .hunt) →
    Completes (c) s (fun t => t = s)) ∧
  (∀ (s : State) (r : Reply),
    s.port.reply = some r →
    (r.kind ≠ 0xE1 ∨ r.status ≠ .ok) → s.power.standbyPending = false → s.port.buffer = [] →
    Completes (.replyEnd) s (fun t =>
      t.port = { s.port with reply := none } ∧
      ChangesOnly [.port] s t)) ∧
  (∀ (s : State) (g : Frame) (rest : List Frame) (r : Reply),
    s.port.reply = some r →
    (r.kind ≠ 0xE1 ∨ r.status ≠ .ok) → s.port.buffer = g :: rest →
    Completes (.replyEnd) s (fun t =>
      t.port.buffer = rest ∧
      t.port.overrun = false ∧
      (∃ a ∈ t.port.reply, a.kind = g.kind + 0x80 ∧ a.tag = g.tag ∧ a.overrun = s.port.overrun ∧ a.role = s.role ∧
        a.reportsPending = decide (t.reports ≠ [])) ∧
      (ReqKind.ofByte g.kind = none → ∃ a ∈ t.port.reply, a.status = .unknownKind ∧ a.payload = []) ∧
      (∀ k : ReqKind, k.byte = g.kind →
        (g.len ≠ 2 + k.payloadLen → ∃ a ∈ t.port.reply, a.status = .invalid ∧ a.payload = []) ∧
        (g.len = 2 + k.payloadLen → wrongRole g.kind s.role = true →
          ∃ a ∈ t.port.reply, a.status = .wrongRole ∧ a.payload = [])))) ∧
  (∀ (s : State) (c : Instr) (g : Frame) (rest : List Frame) (r : Reply),
    requestFrame c = some g →
    s.port.reply = some r →
    (r.kind ≠ 0xE1 ∨ r.status ≠ .ok) → s.power.standbyPending = false → s.port.buffer = g :: rest →
    afterCommand .replyEnd s =
      some (takeRequest g { s with port := { s.port with reply := none, buffer := rest } })) ∧
  (∀ (s : State) (c : Instr) (g : Frame),
    requestFrame c = some g → Listening s →
    afterCommand c s = some (takeRequest g (received s)))

/-- Standby (R191, R192) and wake (R193). What waits in standby, and that WAKE comes first, is log entry 12; that entries
that wait at the entry are held for the next standby sweep (R128), and the partial frame dropped, log entry 13; that the
wake comes before the arbiter's choice log entry 36. -/
def Obligations.SleepStandbyAndWake : Prop :=
  (∀ (s : State) (tag : Byte),
    Listening s → s.role = .handle →
    (s.drive.state ≠ .stopped ∨ (s.session.phase ≠ .none ∧ s.session.phase ≠ .done) ∨ s.session.restart.isSome = true
      ∨ s.link.evac ≠ .none) →
    Completes (.sleep tag) s (fun t =>
      Answered s t 0x60 tag .busy [] [])) ∧
  (∀ (s : State) (tag : Byte),
    Listening s → s.role = .handle → s.drive.state = .stopped → (s.session.phase = .none ∨ s.session.phase = .done) →
    s.session.restart = none → s.link.evac = .none →
    Completes (.sleep tag) s (fun t =>
      Answered s t 0x60 tag .ok [] [.power] ∧
      t.power = { s.power with standbyPending := true })) ∧
  (∀ (s : State),
    s.power.state = .active → s.power.standbyPending = true → ReportsFit s →
    Completes (.hostLineEdge) s (fun t =>
      t.power = { s.power with standbyPending := false } ∧
      Queued s t [{ kind := .wake, sub := 3, time := t.partTime, data := [0xFF, 0xFF, 0xFF, 0xFF] }] ∧
      ChangesOnly [.power, .reports, .lost] s t)) ∧
  (∀ (s : State),
    s.power.state ≠ .standby → s.power.standbyPending = false →
    Completes (.hostLineEdge) s (fun t => t = s)) ∧
  (∀ (s : State) (r : Reply),
    s.port.reply = some r →
    (r.kind ≠ 0xE1 ∨ r.status ≠ .ok) → s.role = .handle → s.power.fast = .running → s.power.standbyPending = true →
    s.port.buffer = [] → s.monitor.periodMs ≠ 2000 → s.now < s.monitor.lastExpiry + 2000000000 →
    Completes (.replyEnd) s (fun t =>
      t.power = { s.power with
        state := .standby, standbyPending := false, standbyTime := s.partTime,
        fast := if s.seq.queue = [] ∧ s.seq.inFlight = none then .off else .running } ∧
      t.fill = { s.fill with scan := none, next := none } ∧
      t.session = { s.session with balance := [] } ∧
      t.link = { s.link with
        exchange := none,
        pend := (match s.link.exchange with | none => s.link.pend | some e => s.link.pend.put e.kind true),
        setpointPoll := none, queryPoll := none, backoff := none, faultRetry := none } ∧
      t.port = { s.port with reply := none, rx := .hunt, gap := none } ∧
      t.monitor = { s.monitor with periodMs := 2000, next := some (s.monitor.lastExpiry + 2000000000) } ∧
      t.seq = { s.seq with held := s.monitor.sweep.isNone } ∧
      ChangesOnly [.power, .fill, .session, .link, .port, .monitor, .seq] s t)) ∧
  (∀ (s : State) (codes : Vector (BitVec 12) 8) (f : Conversion),
    s.seq.inFlight = some f →
    s.power.state = .standby → s.power.fast = .running → s.seq.held = true → f.set.pack = false →
    Completes (.conversionCompletion codes) s (fun t =>
      t.seq.inFlight = none ∧ t.seq.queue = s.seq.queue ∧ t.seq.held = true ∧
      t.power = { s.power with fast := if s.seq.queue = [] then .off else .running })) ∧
  (∀ (s : State),
    s.power.state = .standby → s.power.fast = .off → s.power.waiting = [] →
    Completes (.hostLineEdge) s (fun t =>
      t.power = { s.power with waiting := [.hostLine], fast := .settling (t.now + 1000000) } ∧
      t.port = { s.port with wakeByte := if byteLost s then s.port.wakeByte else some (s.now + 43402) } ∧
      ChangesOnly [.power, .port] s t)) ∧
  (∀ (s : State),
    s.power.state = .standby → Waiting.hostLine ∈ s.power.waiting →
    Completes (.hostLineEdge) s (fun t =>
      t.port = { s.port with wakeByte := if byteLost s then s.port.wakeByte else some (s.now + 43402) } ∧
      ChangesOnly [.port] s t)) ∧
  (∀ (s : State) (d : Nat),
    s.motor.candidate = some d →
    s.power.state = .standby → s.power.fast = .off → s.power.waiting = [] → s.pins.trig = true →
    Completes (.triggerQualified) s (fun t =>
      t.now = s.atDeadline d ∧
      t.power = { s.power with waiting := [.press], fast := .settling (t.now + 1000000) } ∧
      t.motor = { s.motor with candidate := none } ∧
      t.drive = { s.drive with trigPressed := true } ∧
      ChangesOnly [.now, .power, .motor, .drive] s t)) ∧
  (∀ (s : State) (d : Nat),
    s.link.candidate = some d →
    s.power.state = .standby → s.power.fast = .off → s.power.waiting = [] → s.link.docked = false →
    Completes (.dockedQualified) s (fun t =>
      t.now = s.atDeadline d ∧
      t.power = { s.power with waiting := [.docked], fast := .settling (t.now + 1000000) } ∧
      t.link = { s.link with docked := true, candidate := none } ∧
      ChangesOnly [.now, .power, .link] s t)) ∧
  (∀ (s : State) (d : Nat),
    s.link.candidate = some d →
    s.power.state = .standby → s.power.fast = .off → s.power.waiting = [] → s.link.docked = true →
    Completes (.undockedQualified) s (fun t =>
      t.now = s.atDeadline d ∧
      t.power = { s.power with waiting := [.undocked], fast := .settling (t.now + 1000000) } ∧
      t.link = { s.link with docked := false, candidate := none } ∧
      ChangesOnly [.now, .power, .link] s t)) ∧
  (∀ (s : State) (d : Nat),
    (match s.power.fast with | .settling u => some u | _ => none) = some d →
    s.power.state = .standby → s.role = .handle → s.power.waiting = [.hostLine] → NoPortAlone s → ReportsFit s →
    Completes (.fastClockSettled) s (fun t =>
      t.now = s.atDeadline d ∧
      t.power = { s.power with state := .active, waiting := [], fast := .running } ∧
      Queued s t [{ kind := .wake, sub := 3, time := t.partTime, data := le4 s.power.standbyTime.toNat }] ∧
      t.fill.scan.isSome = true ∧ t.fill.lastExpiry = t.now ∧ t.fill.periodMs = scanPeriodMs s ∧
      t.fill.next = some (t.now + t.fill.periodMs * 1000000) ∧
      t.monitor.periodMs = (if s.drive.state ≠ .stopped ∨ s.session.phase.charging = true then 20 else 100) ∧
      t.session = { s.session with balance := t.session.balance } ∧
      t.port = { s.port with rx := .hunt, gap := none } ∧
      t.link =
        (if s.link.state = .linked then { s.link with
          setpointPoll := some (t.now + 250000000),
          queryPoll := if s.link.evac = .none then none else some (t.now + 500000000),
          pend := { s.link.pend with setpoint := true } } else if s.link.state = .fault then
          { s.link with faultRetry := some (t.now + 1000000000) } else s.link) ∧
      ChangesOnly [.now, .power, .fill, .monitor, .session, .seq, .link, .port, .reports, .lost] s t)) ∧
  (∀ (s : State) (d : Nat),
    (match s.power.fast with | .settling u => some u | _ => none) = some d →
    s.power.state = .standby → s.power.waiting = [] → s.seq.queue ≠ [] → s.seq.held = false →
    s.seq.inFlight.isSome = true →
    Completes (.fastClockSettled) s (fun t =>
      t.now = s.atDeadline d ∧
      t.power = { s.power with fast := .running } ∧
      ChangesOnly [.now, .power] s t)) ∧
  (∀ (s : State) (d i : Nat) (e : Entry),
    (match s.power.fast with | .settling u => some u | _ => none) = some d →
    s.seq.queue[i]? = some e →
    s.power.state = .standby → s.power.waiting = [] → s.seq.held = false → s.seq.inFlight = none → Chosen i e s →
    Completes (.fastClockSettled) s (fun t =>
      t.now = s.atDeadline d ∧
      t.power = { s.power with fast := .running } ∧
      ConversionStarted i e s t ∧
      t.seq = { s.seq with queue := t.seq.queue, inFlight := t.seq.inFlight } ∧
      ChangesOnly [.now, .power, .seq] s t))

/-- Start-up (R188, R189), and the values after reset of every table. The trim record, the pins' levels at State.reset, the
free counter, and that a reset keeps the trim record and the levels of the pins are the model's (log entries 3, 4, 5 and
29). -/
def Obligations.ResetsAndStartUp : Prop :=
  (State.reset.drive = {
    state := .stopped, mode := .manual 1, armed := false, trigPressed := false, trigOn := false,
    pendingStart := false, nTgt := 0, nEff := 0, nMeas := 0, duty := 0, pMeas := 0, pCeil := 0, limit := .level,
    lastStop := none, runStart := 0, startCharge := 0, stale := 0, lowSpeed := 0, overcurrent := 0, derated := 0,
    suspect := 0, clear := 0, levelSeen := 1,
    terms := { level := 0, cell := 0, tempPack := 0, tempBridge := 0, clog := 0 } }) ∧
  (State.reset.motor = {
    candidate := none, settle := none, period := none, spinUp := none, coast := none, pumpOn := false, bridge := none,
    pwmDuty := 0, pwmThreshold := 45, pwmNext := none, tripped := false, refStamp := none, ring := [], edge := none })
    ∧
  (State.reset.counter = { q := 0, residual := 0, soc := 0, origin := .none, capacity := 2500 }) ∧
  (State.reset.chargeCfg = { iCc := 2000, vCellFull := 4200 }) ∧
  (State.reset.sensingCfg = {
    code := 5, rejectUs := 4, t1 := 40, t2 := 150, t3 := 400, drainUs := 2, chargeUs := 20, clockMhz := 24,
    width := 12, cover := 80, full := 5 }) ∧
  (State.reset.dockCfg = { autoEvacuate := true, duration := 15, level := 4, chargingEnabled := true }) ∧
  (State.reset.responder =
    { keepAlive := none, lastValid := none, arrival := .idle, present := false, candidate := none, response := none }) ∧
  (State.reset.output = {
    permission := false, vLim := 0, iRequested := 0, iApp := 0, pAllow := 480, duty := 0, status := .off, vOut := 0,
    iOut := 0, stale := 0, busLimit := 480, iMax := 2500, period := none, recovery := none }) ∧
  (State.reset.cycle =
    { state := .idle, reason := none, duration := 0, runningSince := 0, elapsed := 0, timer := none }) ∧
  (State.reset.port =
    {
      rx := .hunt, gap := none, wakeByte := none, buffer := [], overrun := false, reply := none, silence := none,
      silent := false }) ∧
  (State.reset.pack.valid = false ∧ State.reset.pack.cells = #v[0, 0, 0, 0, 0, 0, 0] ∧ State.reset.supply.valid =
    false) ∧
  (State.reset.session.phase = .none ∧ State.reset.session.vLimit = 29400 ∧ State.reset.session.switchClosed = false ∧
    State.reset.session.balance = [] ∧ State.reset.session.request = 0) ∧
  (State.reset.link.docked = false ∧ State.reset.link.state = .absent ∧ State.reset.link.evac = .none ∧
    State.reset.link.pend =
    { ident := false, setpoint := false, evacStart := false, evacQuery := false, evacStop := false }) ∧
  (State.reset.driveCfg.rejectMs = 4 ∧ State.reset.driveCfg.mode = .hold ∧ State.reset.driveCfg.threshold = 45 ∧
    State.reset.driveCfg.pMax = 520 ∧ State.reset.driveCfg.vDerate = 3400 ∧ State.reset.driveCfg.vFloor = 3000) ∧
  (State.reset.conds = [] ∧ State.reset.reports = [] ∧ State.reset.lost = false ∧ State.reset.seq.queue = [] ∧
    State.reset.seq.inFlight = none ∧ State.reset.watches = #v[none, none, none, none, none, none, none, none] ∧
    State.reset.pending = []) ∧
  (∀ (s : State) (role : Role) (fit : Bool),
    Completes (.powerOnReset role fit) s (fun t =>
      t = { State.reset with
        role := role, evacFit := (role == .dock) && fit, power := { State.reset.power with cause := .powerOn },
        driveCfg := { State.reset.driveCfg with levels := t.driveCfg.levels }, trim := s.trim,
        pins := { s.pins with role := role, fit := fit },
        seq := { State.reset.seq with chans := t.seq.chans },
        fill := { State.reset.fill with electrodes := t.fill.electrodes }, free := s.free, pending := s.pending } ∧
      (∀ c : Chan, t.chan c = {
        codes := s.trim.codes[c.index], averaging := s.trim.averaging[c.index], cal := s.trim.cal[c.index],
        value := 0, raw := 0, mark := .none, time := 0, valid := false }) ∧
      (∀ i : Fin 8, t.fill.electrodes[i] =
        { baseline := s.trim.baselines[i], raw := 0, delta := 0, covered := false }) ∧
      (∀ j : Nat, 1 ≤ j → j ≤ 4 → levelRec t j = (if role = .dock then ⟨95000, 420, 380, 600⟩ else if j = 1 then
        ⟨62000, 90, 70, 600⟩ else if j = 2 then ⟨85000, 180, 150, 600⟩ else if j = 3 then ⟨105000, 320, 280, 600⟩ else
        ⟨120000, 500, 430, 600⟩)))) ∧
  (∀ (s : State) (role : Role) (fit : Bool),
    Completes (.brownOutReset role fit) s (fun t =>
      t = { State.reset with
        role := role, evacFit := (role == .dock) && fit, power := { State.reset.power with cause := .brownOut },
        driveCfg := { State.reset.driveCfg with levels := t.driveCfg.levels }, trim := s.trim,
        pins := { s.pins with role := role, fit := fit },
        seq := { State.reset.seq with chans := t.seq.chans },
        fill := { State.reset.fill with electrodes := t.fill.electrodes }, free := s.free, pending := s.pending } ∧
      (∀ c : Chan, t.chan c = {
        codes := s.trim.codes[c.index], averaging := s.trim.averaging[c.index], cal := s.trim.cal[c.index],
        value := 0, raw := 0, mark := .none, time := 0, valid := false }) ∧
      (∀ i : Fin 8, t.fill.electrodes[i] =
        { baseline := s.trim.baselines[i], raw := 0, delta := 0, covered := false }) ∧
      (∀ j : Nat, 1 ≤ j → j ≤ 4 → levelRec t j = (if role = .dock then ⟨95000, 420, 380, 600⟩ else if j = 1 then
        ⟨62000, 90, 70, 600⟩ else if j = 2 then ⟨85000, 180, 150, 600⟩ else if j = 3 then ⟨105000, 320, 280, 600⟩ else
        ⟨120000, 500, 430, 600⟩)))) ∧
  (∀ (s : State) (tag : Byte),
    Listening s →
    Completes (.restart tag) s (fun t =>
      Answered s t 0x61 tag .ok [] [])) ∧
  (∀ (s : State) (r : Reply),
    s.port.reply = some r →
    r.kind = 0xE1 ∧ r.status = .ok →
    Completes (.replyEnd) s (fun t =>
      t = { State.reset with
        role := s.pins.role, evacFit := (s.pins.role == .dock) && s.pins.fit,
        power := { State.reset.power with cause := .restart },
        driveCfg := { State.reset.driveCfg with levels := t.driveCfg.levels }, trim := s.trim, pins := s.pins,
        seq := { State.reset.seq with chans := t.seq.chans },
        fill := { State.reset.fill with electrodes := t.fill.electrodes }, free := s.free, pending := s.pending } ∧
      (∀ c : Chan, t.chan c = {
        codes := s.trim.codes[c.index], averaging := s.trim.averaging[c.index], cal := s.trim.cal[c.index],
        value := 0, raw := 0, mark := .none, time := 0, valid := false }) ∧
      (∀ i : Fin 8, t.fill.electrodes[i] =
        { baseline := s.trim.baselines[i], raw := 0, delta := 0, covered := false }) ∧
      (∀ j : Nat, 1 ≤ j → j ≤ 4 → levelRec t j = (if s.pins.role = .dock then ⟨95000, 420, 380, 600⟩ else if j = 1 then
        ⟨62000, 90, 70, 600⟩ else if j = 2 then ⟨85000, 180, 150, 600⟩ else if j = 3 then ⟨105000, 320, 280, 600⟩ else
        ⟨120000, 500, 430, 600⟩)))) ∧
  (∀ (s : State) (ok : Bool),
    let tr := if ok then s.trim else nominalTrim
    s.power.state = .starting →
    Completes (.startUpComplete ok) s (fun t =>
      t.now = 0 ∧ t.role = s.role ∧ t.evacFit = s.evacFit ∧ t.trim = s.trim ∧ t.pins = s.pins ∧ t.lost = false ∧
      t.power = {
        state := .active, standbyPending := false, standbyTime := 0, fast := .running, waiting := [],
        cause := s.power.cause, trimPassed := ok } ∧
      t.reports =
        [{
          kind := .started, sub := s.power.cause.code, time := 0,
          data := [if s.role = .handle then 0 else 1, if ok then 1 else 0] }] ++
          (if ok then [] else
            [{ kind := .conditionRaised, sub := 24, time := 0, data := [1, 0, 0xFF, 0xFF, 0xFF, 0xFF] }]) ∧
      t.conds =
        (if ok then [] else
          [{ kind := .trimInvalid, active := true, first := 0, last := 0, occurrences := 1, detail := none }]) ∧
      t.monitor = { State.reset.monitor with lastExpiry := 0, next := some 100000000, sweep := some [] } ∧
      (t.seq.inFlight.map (·.chan) = some (if s.role = .handle then .cell1 else .busV)) ∧
      t.seq.queue.map (·.chan) =
        (if s.role = .handle then [.cell2, .cell3, .cell4, .cell5, .cell6, .cell7, .packV, .packI, .packT, .bridgeT]
          else [.bridgeT, .packT]) ∧
      (∀ c : Chan, t.chan c = {
        codes := tr.codes[c.index], averaging := tr.averaging[c.index], cal := tr.cal[c.index], value := 0, raw := 0,
        mark := .none, time := 0, valid := false }) ∧
      (∀ i : Fin 8, t.fill.electrodes[i] = { baseline := tr.baselines[i], raw := 0, delta := 0, covered := false }) ∧
      t.fill.scan = some { width := 12, endsAt := 8 * (2 + 20 + 171) * 1000, rebase := false } ∧
      t.fill.next = some 1000000000 ∧
      t.port = { State.reset.port with silence := if s.role = .handle then some 500000000 else none } ∧
      t.drive = State.reset.drive ∧
      t.motor =
        { State.reset.motor with candidate := if s.role = .handle ∧ s.pins.trig = true then some 4000000 else none } ∧
      t.link = { State.reset.link with
        candidate := if s.role = .handle ∧ s.pins.contact = true then some 200000000 else none } ∧
      t.responder = { State.reset.responder with
        candidate := if s.role = .dock ∧ s.pins.stick = true then some 200000000 else none } ∧
      t.output = { State.reset.output with status := if s.role = .dock ∧ ok = false then .fault else .off } ∧
      t.session = State.reset.session ∧ t.counter = State.reset.counter ∧ t.pack = State.reset.pack ∧
      t.supply = State.reset.supply ∧ t.watches = State.reset.watches ∧ t.cycle = State.reset.cycle ∧
      t.dirt = State.reset.dirt ∧ t.dockCfg = State.reset.dockCfg ∧ t.chargeCfg = State.reset.chargeCfg ∧
      t.sensingCfg = State.reset.sensingCfg))

/-- What a step does with a waiting command. The queue is the model's (log entry 10). -/
def Obligations.StepTakesTheFrontCommand : Prop :=
  ∀ (c : Instr) (rest : List Instr) (s : State), s.pending = c :: rest → step s = exec c (s.setPending rest)

/-- What a step does on an empty queue. The tick is the model's (log entry 1). -/
def Obligations.IdleStepsPassTimeOnly : Prop :=
  ∀ s : State, s.pending = [] →
    ∃ n : Nat, step s = .next (s.setNow n) ∧ s.now ≤ n ∧ n ≤ s.now + 1000 ∧
      (∀ d : Nat, some d ∈ deadlines s → s.now ≤ d → n ≤ d) ∧
      (startable s ≠ none → n = s.now) ∧
      (startable s = none → (∀ d : Nat, some d ∈ deadlines s → s.now < d) → s.now < n)

/-- No command stops the part. The clock, the counter and the queue are the model's (log entries 1, 5 and 10), and that the
straps' levels and the trim record are kept by every other command log entry 29. -/
def Obligations.EveryCommandCompletes : Prop :=
  (∀ (s : State) (c : Instr),
    Completes (c) s (fun t =>
      t.pending = s.pending ∧
      t.trim = s.trim ∧
      s.free ≤ t.free)) ∧
  (∀ (s : State) (c : Instr),
    (∀ (role : Role) (fit : Bool), c ≠ .powerOnReset role fit ∧ c ≠ .brownOutReset role fit) →
    Completes (c) s (fun t =>
      t.pins.role = s.pins.role ∧ t.pins.fit = s.pins.fit)) ∧
  (∀ (s : State) (c : Instr),
    (∀ (role : Role) (fit : Bool), c ≠ .powerOnReset role fit ∧ c ≠ .brownOutReset role fit) →
    (c ≠ .replyEnd ∨ s.port.reply.any (fun r => r.kind == 0xE1) = false) →
    Completes (c) s (fun t =>
      t.role = s.role ∧ t.evacFit = s.evacFit)) ∧
  (∀ (s : State) (c : Instr),
    (∀ (role : Role) (fit : Bool), c ≠ .powerOnReset role fit ∧ c ≠ .brownOutReset role fit) →
    (∀ ok : Bool, c ≠ .startUpComplete ok) → (c ≠ .replyEnd ∨ s.port.reply.any (fun r => r.kind == 0xE1) = false) →
    Completes (c) s (fun t =>
      s.now ≤ t.now))

/-- Every step keeps the law of the drive (R24, R42). -/
def Obligations.DriveLawIsKept : Prop :=
  Kept DriveLaw

/-- Every step keeps the laws of the dock's output (R163, R165, R167). -/
def Obligations.OutputLawsAreKept : Prop :=
  Kept OutputLaw ∧ Kept BudgetLaw

/-- Every step keeps the laws of the charge switch and of the balance set (R90, R78, R92). -/
def Obligations.ChargeLawsAreKept : Prop :=
  Kept ChargeLaw ∧ Kept BalanceLaw

/-- Every step keeps the laws of the dirt ring and of the full level (R99, R109). -/
def Obligations.SensingLawsAreKept : Prop :=
  Kept DirtLaw ∧ Kept FullLaw

/-- Every step keeps the bounds of the queues, of the condition list and of the charge counter (R121, R130, R182,
R177, R62, R63). -/
def Obligations.QueueLawsAreKept : Prop :=
  Kept ConversionQueueLaw ∧ Kept ConditionListLaw ∧ Kept QueueLaw ∧ Kept CounterLaw

/-- The laws hold at State.reset, whose straps and trim record are the model's choice (log entries 3 and 4). -/
def Obligations.ResetMeetsTheLaws : Prop :=
  DriveLaw State.reset ∧ OutputLaw State.reset ∧ BudgetLaw State.reset ∧ ChargeLaw State.reset ∧ BalanceLaw State.reset ∧
  DirtLaw State.reset ∧ FullLaw State.reset ∧ ConversionQueueLaw State.reset ∧ ConditionListLaw State.reset ∧
  QueueLaw State.reset ∧ CounterLaw State.reset
end

