-- ==== Sys2Proof/Laws/State.lean ====
section
/-! SUPPORT. One lemma per field per update of State, each true by rfl: no later proof unfolds a record update. -/

namespace Sys2Proof.Laws

open Sys2Proof.Machine

@[simp] theorem setNow_now (s : State) (x : Nat) : (s.setNow x).now = x := rfl
@[simp] theorem setNow_role (s : State) (x : Nat) : (s.setNow x).role = s.role := rfl
@[simp] theorem setNow_evacFit (s : State) (x : Nat) : (s.setNow x).evacFit = s.evacFit := rfl
@[simp] theorem setNow_trim (s : State) (x : Nat) : (s.setNow x).trim = s.trim := rfl
@[simp] theorem setNow_power (s : State) (x : Nat) : (s.setNow x).power = s.power := rfl
@[simp] theorem setNow_pins (s : State) (x : Nat) : (s.setNow x).pins = s.pins := rfl
@[simp] theorem setNow_drive (s : State) (x : Nat) : (s.setNow x).drive = s.drive := rfl
@[simp] theorem setNow_motor (s : State) (x : Nat) : (s.setNow x).motor = s.motor := rfl
@[simp] theorem setNow_driveCfg (s : State) (x : Nat) : (s.setNow x).driveCfg = s.driveCfg := rfl
@[simp] theorem setNow_pack (s : State) (x : Nat) : (s.setNow x).pack = s.pack := rfl
@[simp] theorem setNow_supply (s : State) (x : Nat) : (s.setNow x).supply = s.supply := rfl
@[simp] theorem setNow_monitor (s : State) (x : Nat) : (s.setNow x).monitor = s.monitor := rfl
@[simp] theorem setNow_counter (s : State) (x : Nat) : (s.setNow x).counter = s.counter := rfl
@[simp] theorem setNow_session (s : State) (x : Nat) : (s.setNow x).session = s.session := rfl
@[simp] theorem setNow_chargeCfg (s : State) (x : Nat) : (s.setNow x).chargeCfg = s.chargeCfg := rfl
@[simp] theorem setNow_output (s : State) (x : Nat) : (s.setNow x).output = s.output := rfl
@[simp] theorem setNow_sensingCfg (s : State) (x : Nat) : (s.setNow x).sensingCfg = s.sensingCfg := rfl
@[simp] theorem setNow_dirt (s : State) (x : Nat) : (s.setNow x).dirt = s.dirt := rfl
@[simp] theorem setNow_fill (s : State) (x : Nat) : (s.setNow x).fill = s.fill := rfl
@[simp] theorem setNow_seq (s : State) (x : Nat) : (s.setNow x).seq = s.seq := rfl
@[simp] theorem setNow_conds (s : State) (x : Nat) : (s.setNow x).conds = s.conds := rfl
@[simp] theorem setNow_watches (s : State) (x : Nat) : (s.setNow x).watches = s.watches := rfl
@[simp] theorem setNow_link (s : State) (x : Nat) : (s.setNow x).link = s.link := rfl
@[simp] theorem setNow_dockCfg (s : State) (x : Nat) : (s.setNow x).dockCfg = s.dockCfg := rfl
@[simp] theorem setNow_responder (s : State) (x : Nat) : (s.setNow x).responder = s.responder := rfl
@[simp] theorem setNow_cycle (s : State) (x : Nat) : (s.setNow x).cycle = s.cycle := rfl
@[simp] theorem setNow_port (s : State) (x : Nat) : (s.setNow x).port = s.port := rfl
@[simp] theorem setNow_reports (s : State) (x : Nat) : (s.setNow x).reports = s.reports := rfl
@[simp] theorem setNow_lost (s : State) (x : Nat) : (s.setNow x).lost = s.lost := rfl
@[simp] theorem setNow_free (s : State) (x : Nat) : (s.setNow x).free = s.free := rfl
@[simp] theorem setNow_pending (s : State) (x : Nat) : (s.setNow x).pending = s.pending := rfl

@[simp] theorem setRole_now (s : State) (x : Role) : (s.setRole x).now = s.now := rfl
@[simp] theorem setRole_role (s : State) (x : Role) : (s.setRole x).role = x := rfl
@[simp] theorem setRole_evacFit (s : State) (x : Role) : (s.setRole x).evacFit = s.evacFit := rfl
@[simp] theorem setRole_trim (s : State) (x : Role) : (s.setRole x).trim = s.trim := rfl
@[simp] theorem setRole_power (s : State) (x : Role) : (s.setRole x).power = s.power := rfl
@[simp] theorem setRole_pins (s : State) (x : Role) : (s.setRole x).pins = s.pins := rfl
@[simp] theorem setRole_drive (s : State) (x : Role) : (s.setRole x).drive = s.drive := rfl
@[simp] theorem setRole_motor (s : State) (x : Role) : (s.setRole x).motor = s.motor := rfl
@[simp] theorem setRole_driveCfg (s : State) (x : Role) : (s.setRole x).driveCfg = s.driveCfg := rfl
@[simp] theorem setRole_pack (s : State) (x : Role) : (s.setRole x).pack = s.pack := rfl
@[simp] theorem setRole_supply (s : State) (x : Role) : (s.setRole x).supply = s.supply := rfl
@[simp] theorem setRole_monitor (s : State) (x : Role) : (s.setRole x).monitor = s.monitor := rfl
@[simp] theorem setRole_counter (s : State) (x : Role) : (s.setRole x).counter = s.counter := rfl
@[simp] theorem setRole_session (s : State) (x : Role) : (s.setRole x).session = s.session := rfl
@[simp] theorem setRole_chargeCfg (s : State) (x : Role) : (s.setRole x).chargeCfg = s.chargeCfg := rfl
@[simp] theorem setRole_output (s : State) (x : Role) : (s.setRole x).output = s.output := rfl
@[simp] theorem setRole_sensingCfg (s : State) (x : Role) : (s.setRole x).sensingCfg = s.sensingCfg := rfl
@[simp] theorem setRole_dirt (s : State) (x : Role) : (s.setRole x).dirt = s.dirt := rfl
@[simp] theorem setRole_fill (s : State) (x : Role) : (s.setRole x).fill = s.fill := rfl
@[simp] theorem setRole_seq (s : State) (x : Role) : (s.setRole x).seq = s.seq := rfl
@[simp] theorem setRole_conds (s : State) (x : Role) : (s.setRole x).conds = s.conds := rfl
@[simp] theorem setRole_watches (s : State) (x : Role) : (s.setRole x).watches = s.watches := rfl
@[simp] theorem setRole_link (s : State) (x : Role) : (s.setRole x).link = s.link := rfl
@[simp] theorem setRole_dockCfg (s : State) (x : Role) : (s.setRole x).dockCfg = s.dockCfg := rfl
@[simp] theorem setRole_responder (s : State) (x : Role) : (s.setRole x).responder = s.responder := rfl
@[simp] theorem setRole_cycle (s : State) (x : Role) : (s.setRole x).cycle = s.cycle := rfl
@[simp] theorem setRole_port (s : State) (x : Role) : (s.setRole x).port = s.port := rfl
@[simp] theorem setRole_reports (s : State) (x : Role) : (s.setRole x).reports = s.reports := rfl
@[simp] theorem setRole_lost (s : State) (x : Role) : (s.setRole x).lost = s.lost := rfl
@[simp] theorem setRole_free (s : State) (x : Role) : (s.setRole x).free = s.free := rfl
@[simp] theorem setRole_pending (s : State) (x : Role) : (s.setRole x).pending = s.pending := rfl

@[simp] theorem setEvacFit_now (s : State) (x : Bool) : (s.setEvacFit x).now = s.now := rfl
@[simp] theorem setEvacFit_role (s : State) (x : Bool) : (s.setEvacFit x).role = s.role := rfl
@[simp] theorem setEvacFit_evacFit (s : State) (x : Bool) : (s.setEvacFit x).evacFit = x := rfl
@[simp] theorem setEvacFit_trim (s : State) (x : Bool) : (s.setEvacFit x).trim = s.trim := rfl
@[simp] theorem setEvacFit_power (s : State) (x : Bool) : (s.setEvacFit x).power = s.power := rfl
@[simp] theorem setEvacFit_pins (s : State) (x : Bool) : (s.setEvacFit x).pins = s.pins := rfl
@[simp] theorem setEvacFit_drive (s : State) (x : Bool) : (s.setEvacFit x).drive = s.drive := rfl
@[simp] theorem setEvacFit_motor (s : State) (x : Bool) : (s.setEvacFit x).motor = s.motor := rfl
@[simp] theorem setEvacFit_driveCfg (s : State) (x : Bool) : (s.setEvacFit x).driveCfg = s.driveCfg := rfl
@[simp] theorem setEvacFit_pack (s : State) (x : Bool) : (s.setEvacFit x).pack = s.pack := rfl
@[simp] theorem setEvacFit_supply (s : State) (x : Bool) : (s.setEvacFit x).supply = s.supply := rfl
@[simp] theorem setEvacFit_monitor (s : State) (x : Bool) : (s.setEvacFit x).monitor = s.monitor := rfl
@[simp] theorem setEvacFit_counter (s : State) (x : Bool) : (s.setEvacFit x).counter = s.counter := rfl
@[simp] theorem setEvacFit_session (s : State) (x : Bool) : (s.setEvacFit x).session = s.session := rfl
@[simp] theorem setEvacFit_chargeCfg (s : State) (x : Bool) : (s.setEvacFit x).chargeCfg = s.chargeCfg := rfl
@[simp] theorem setEvacFit_output (s : State) (x : Bool) : (s.setEvacFit x).output = s.output := rfl
@[simp] theorem setEvacFit_sensingCfg (s : State) (x : Bool) : (s.setEvacFit x).sensingCfg = s.sensingCfg := rfl
@[simp] theorem setEvacFit_dirt (s : State) (x : Bool) : (s.setEvacFit x).dirt = s.dirt := rfl
@[simp] theorem setEvacFit_fill (s : State) (x : Bool) : (s.setEvacFit x).fill = s.fill := rfl
@[simp] theorem setEvacFit_seq (s : State) (x : Bool) : (s.setEvacFit x).seq = s.seq := rfl
@[simp] theorem setEvacFit_conds (s : State) (x : Bool) : (s.setEvacFit x).conds = s.conds := rfl
@[simp] theorem setEvacFit_watches (s : State) (x : Bool) : (s.setEvacFit x).watches = s.watches := rfl
@[simp] theorem setEvacFit_link (s : State) (x : Bool) : (s.setEvacFit x).link = s.link := rfl
@[simp] theorem setEvacFit_dockCfg (s : State) (x : Bool) : (s.setEvacFit x).dockCfg = s.dockCfg := rfl
@[simp] theorem setEvacFit_responder (s : State) (x : Bool) : (s.setEvacFit x).responder = s.responder := rfl
@[simp] theorem setEvacFit_cycle (s : State) (x : Bool) : (s.setEvacFit x).cycle = s.cycle := rfl
@[simp] theorem setEvacFit_port (s : State) (x : Bool) : (s.setEvacFit x).port = s.port := rfl
@[simp] theorem setEvacFit_reports (s : State) (x : Bool) : (s.setEvacFit x).reports = s.reports := rfl
@[simp] theorem setEvacFit_lost (s : State) (x : Bool) : (s.setEvacFit x).lost = s.lost := rfl
@[simp] theorem setEvacFit_free (s : State) (x : Bool) : (s.setEvacFit x).free = s.free := rfl
@[simp] theorem setEvacFit_pending (s : State) (x : Bool) : (s.setEvacFit x).pending = s.pending := rfl

@[simp] theorem setTrim_now (s : State) (x : Trim) : (s.setTrim x).now = s.now := rfl
@[simp] theorem setTrim_role (s : State) (x : Trim) : (s.setTrim x).role = s.role := rfl
@[simp] theorem setTrim_evacFit (s : State) (x : Trim) : (s.setTrim x).evacFit = s.evacFit := rfl
@[simp] theorem setTrim_trim (s : State) (x : Trim) : (s.setTrim x).trim = x := rfl
@[simp] theorem setTrim_power (s : State) (x : Trim) : (s.setTrim x).power = s.power := rfl
@[simp] theorem setTrim_pins (s : State) (x : Trim) : (s.setTrim x).pins = s.pins := rfl
@[simp] theorem setTrim_drive (s : State) (x : Trim) : (s.setTrim x).drive = s.drive := rfl
@[simp] theorem setTrim_motor (s : State) (x : Trim) : (s.setTrim x).motor = s.motor := rfl
@[simp] theorem setTrim_driveCfg (s : State) (x : Trim) : (s.setTrim x).driveCfg = s.driveCfg := rfl
@[simp] theorem setTrim_pack (s : State) (x : Trim) : (s.setTrim x).pack = s.pack := rfl
@[simp] theorem setTrim_supply (s : State) (x : Trim) : (s.setTrim x).supply = s.supply := rfl
@[simp] theorem setTrim_monitor (s : State) (x : Trim) : (s.setTrim x).monitor = s.monitor := rfl
@[simp] theorem setTrim_counter (s : State) (x : Trim) : (s.setTrim x).counter = s.counter := rfl
@[simp] theorem setTrim_session (s : State) (x : Trim) : (s.setTrim x).session = s.session := rfl
@[simp] theorem setTrim_chargeCfg (s : State) (x : Trim) : (s.setTrim x).chargeCfg = s.chargeCfg := rfl
@[simp] theorem setTrim_output (s : State) (x : Trim) : (s.setTrim x).output = s.output := rfl
@[simp] theorem setTrim_sensingCfg (s : State) (x : Trim) : (s.setTrim x).sensingCfg = s.sensingCfg := rfl
@[simp] theorem setTrim_dirt (s : State) (x : Trim) : (s.setTrim x).dirt = s.dirt := rfl
@[simp] theorem setTrim_fill (s : State) (x : Trim) : (s.setTrim x).fill = s.fill := rfl
@[simp] theorem setTrim_seq (s : State) (x : Trim) : (s.setTrim x).seq = s.seq := rfl
@[simp] theorem setTrim_conds (s : State) (x : Trim) : (s.setTrim x).conds = s.conds := rfl
@[simp] theorem setTrim_watches (s : State) (x : Trim) : (s.setTrim x).watches = s.watches := rfl
@[simp] theorem setTrim_link (s : State) (x : Trim) : (s.setTrim x).link = s.link := rfl
@[simp] theorem setTrim_dockCfg (s : State) (x : Trim) : (s.setTrim x).dockCfg = s.dockCfg := rfl
@[simp] theorem setTrim_responder (s : State) (x : Trim) : (s.setTrim x).responder = s.responder := rfl
@[simp] theorem setTrim_cycle (s : State) (x : Trim) : (s.setTrim x).cycle = s.cycle := rfl
@[simp] theorem setTrim_port (s : State) (x : Trim) : (s.setTrim x).port = s.port := rfl
@[simp] theorem setTrim_reports (s : State) (x : Trim) : (s.setTrim x).reports = s.reports := rfl
@[simp] theorem setTrim_lost (s : State) (x : Trim) : (s.setTrim x).lost = s.lost := rfl
@[simp] theorem setTrim_free (s : State) (x : Trim) : (s.setTrim x).free = s.free := rfl
@[simp] theorem setTrim_pending (s : State) (x : Trim) : (s.setTrim x).pending = s.pending := rfl

@[simp] theorem setPower_now (s : State) (x : Power) : (s.setPower x).now = s.now := rfl
@[simp] theorem setPower_role (s : State) (x : Power) : (s.setPower x).role = s.role := rfl
@[simp] theorem setPower_evacFit (s : State) (x : Power) : (s.setPower x).evacFit = s.evacFit := rfl
@[simp] theorem setPower_trim (s : State) (x : Power) : (s.setPower x).trim = s.trim := rfl
@[simp] theorem setPower_power (s : State) (x : Power) : (s.setPower x).power = x := rfl
@[simp] theorem setPower_pins (s : State) (x : Power) : (s.setPower x).pins = s.pins := rfl
@[simp] theorem setPower_drive (s : State) (x : Power) : (s.setPower x).drive = s.drive := rfl
@[simp] theorem setPower_motor (s : State) (x : Power) : (s.setPower x).motor = s.motor := rfl
@[simp] theorem setPower_driveCfg (s : State) (x : Power) : (s.setPower x).driveCfg = s.driveCfg := rfl
@[simp] theorem setPower_pack (s : State) (x : Power) : (s.setPower x).pack = s.pack := rfl
@[simp] theorem setPower_supply (s : State) (x : Power) : (s.setPower x).supply = s.supply := rfl
@[simp] theorem setPower_monitor (s : State) (x : Power) : (s.setPower x).monitor = s.monitor := rfl
@[simp] theorem setPower_counter (s : State) (x : Power) : (s.setPower x).counter = s.counter := rfl
@[simp] theorem setPower_session (s : State) (x : Power) : (s.setPower x).session = s.session := rfl
@[simp] theorem setPower_chargeCfg (s : State) (x : Power) : (s.setPower x).chargeCfg = s.chargeCfg := rfl
@[simp] theorem setPower_output (s : State) (x : Power) : (s.setPower x).output = s.output := rfl
@[simp] theorem setPower_sensingCfg (s : State) (x : Power) : (s.setPower x).sensingCfg = s.sensingCfg := rfl
@[simp] theorem setPower_dirt (s : State) (x : Power) : (s.setPower x).dirt = s.dirt := rfl
@[simp] theorem setPower_fill (s : State) (x : Power) : (s.setPower x).fill = s.fill := rfl
@[simp] theorem setPower_seq (s : State) (x : Power) : (s.setPower x).seq = s.seq := rfl
@[simp] theorem setPower_conds (s : State) (x : Power) : (s.setPower x).conds = s.conds := rfl
@[simp] theorem setPower_watches (s : State) (x : Power) : (s.setPower x).watches = s.watches := rfl
@[simp] theorem setPower_link (s : State) (x : Power) : (s.setPower x).link = s.link := rfl
@[simp] theorem setPower_dockCfg (s : State) (x : Power) : (s.setPower x).dockCfg = s.dockCfg := rfl
@[simp] theorem setPower_responder (s : State) (x : Power) : (s.setPower x).responder = s.responder := rfl
@[simp] theorem setPower_cycle (s : State) (x : Power) : (s.setPower x).cycle = s.cycle := rfl
@[simp] theorem setPower_port (s : State) (x : Power) : (s.setPower x).port = s.port := rfl
@[simp] theorem setPower_reports (s : State) (x : Power) : (s.setPower x).reports = s.reports := rfl
@[simp] theorem setPower_lost (s : State) (x : Power) : (s.setPower x).lost = s.lost := rfl
@[simp] theorem setPower_free (s : State) (x : Power) : (s.setPower x).free = s.free := rfl
@[simp] theorem setPower_pending (s : State) (x : Power) : (s.setPower x).pending = s.pending := rfl

@[simp] theorem setPins_now (s : State) (x : Pins) : (s.setPins x).now = s.now := rfl
@[simp] theorem setPins_role (s : State) (x : Pins) : (s.setPins x).role = s.role := rfl
@[simp] theorem setPins_evacFit (s : State) (x : Pins) : (s.setPins x).evacFit = s.evacFit := rfl
@[simp] theorem setPins_trim (s : State) (x : Pins) : (s.setPins x).trim = s.trim := rfl
@[simp] theorem setPins_power (s : State) (x : Pins) : (s.setPins x).power = s.power := rfl
@[simp] theorem setPins_pins (s : State) (x : Pins) : (s.setPins x).pins = x := rfl
@[simp] theorem setPins_drive (s : State) (x : Pins) : (s.setPins x).drive = s.drive := rfl
@[simp] theorem setPins_motor (s : State) (x : Pins) : (s.setPins x).motor = s.motor := rfl
@[simp] theorem setPins_driveCfg (s : State) (x : Pins) : (s.setPins x).driveCfg = s.driveCfg := rfl
@[simp] theorem setPins_pack (s : State) (x : Pins) : (s.setPins x).pack = s.pack := rfl
@[simp] theorem setPins_supply (s : State) (x : Pins) : (s.setPins x).supply = s.supply := rfl
@[simp] theorem setPins_monitor (s : State) (x : Pins) : (s.setPins x).monitor = s.monitor := rfl
@[simp] theorem setPins_counter (s : State) (x : Pins) : (s.setPins x).counter = s.counter := rfl
@[simp] theorem setPins_session (s : State) (x : Pins) : (s.setPins x).session = s.session := rfl
@[simp] theorem setPins_chargeCfg (s : State) (x : Pins) : (s.setPins x).chargeCfg = s.chargeCfg := rfl
@[simp] theorem setPins_output (s : State) (x : Pins) : (s.setPins x).output = s.output := rfl
@[simp] theorem setPins_sensingCfg (s : State) (x : Pins) : (s.setPins x).sensingCfg = s.sensingCfg := rfl
@[simp] theorem setPins_dirt (s : State) (x : Pins) : (s.setPins x).dirt = s.dirt := rfl
@[simp] theorem setPins_fill (s : State) (x : Pins) : (s.setPins x).fill = s.fill := rfl
@[simp] theorem setPins_seq (s : State) (x : Pins) : (s.setPins x).seq = s.seq := rfl
@[simp] theorem setPins_conds (s : State) (x : Pins) : (s.setPins x).conds = s.conds := rfl
@[simp] theorem setPins_watches (s : State) (x : Pins) : (s.setPins x).watches = s.watches := rfl
@[simp] theorem setPins_link (s : State) (x : Pins) : (s.setPins x).link = s.link := rfl
@[simp] theorem setPins_dockCfg (s : State) (x : Pins) : (s.setPins x).dockCfg = s.dockCfg := rfl
@[simp] theorem setPins_responder (s : State) (x : Pins) : (s.setPins x).responder = s.responder := rfl
@[simp] theorem setPins_cycle (s : State) (x : Pins) : (s.setPins x).cycle = s.cycle := rfl
@[simp] theorem setPins_port (s : State) (x : Pins) : (s.setPins x).port = s.port := rfl
@[simp] theorem setPins_reports (s : State) (x : Pins) : (s.setPins x).reports = s.reports := rfl
@[simp] theorem setPins_lost (s : State) (x : Pins) : (s.setPins x).lost = s.lost := rfl
@[simp] theorem setPins_free (s : State) (x : Pins) : (s.setPins x).free = s.free := rfl
@[simp] theorem setPins_pending (s : State) (x : Pins) : (s.setPins x).pending = s.pending := rfl

@[simp] theorem setDrive_now (s : State) (x : Drive) : (s.setDrive x).now = s.now := rfl
@[simp] theorem setDrive_role (s : State) (x : Drive) : (s.setDrive x).role = s.role := rfl
@[simp] theorem setDrive_evacFit (s : State) (x : Drive) : (s.setDrive x).evacFit = s.evacFit := rfl
@[simp] theorem setDrive_trim (s : State) (x : Drive) : (s.setDrive x).trim = s.trim := rfl
@[simp] theorem setDrive_power (s : State) (x : Drive) : (s.setDrive x).power = s.power := rfl
@[simp] theorem setDrive_pins (s : State) (x : Drive) : (s.setDrive x).pins = s.pins := rfl
@[simp] theorem setDrive_drive (s : State) (x : Drive) : (s.setDrive x).drive = x := rfl
@[simp] theorem setDrive_motor (s : State) (x : Drive) : (s.setDrive x).motor = s.motor := rfl
@[simp] theorem setDrive_driveCfg (s : State) (x : Drive) : (s.setDrive x).driveCfg = s.driveCfg := rfl
@[simp] theorem setDrive_pack (s : State) (x : Drive) : (s.setDrive x).pack = s.pack := rfl
@[simp] theorem setDrive_supply (s : State) (x : Drive) : (s.setDrive x).supply = s.supply := rfl
@[simp] theorem setDrive_monitor (s : State) (x : Drive) : (s.setDrive x).monitor = s.monitor := rfl
@[simp] theorem setDrive_counter (s : State) (x : Drive) : (s.setDrive x).counter = s.counter := rfl
@[simp] theorem setDrive_session (s : State) (x : Drive) : (s.setDrive x).session = s.session := rfl
@[simp] theorem setDrive_chargeCfg (s : State) (x : Drive) : (s.setDrive x).chargeCfg = s.chargeCfg := rfl
@[simp] theorem setDrive_output (s : State) (x : Drive) : (s.setDrive x).output = s.output := rfl
@[simp] theorem setDrive_sensingCfg (s : State) (x : Drive) : (s.setDrive x).sensingCfg = s.sensingCfg := rfl
@[simp] theorem setDrive_dirt (s : State) (x : Drive) : (s.setDrive x).dirt = s.dirt := rfl
@[simp] theorem setDrive_fill (s : State) (x : Drive) : (s.setDrive x).fill = s.fill := rfl
@[simp] theorem setDrive_seq (s : State) (x : Drive) : (s.setDrive x).seq = s.seq := rfl
@[simp] theorem setDrive_conds (s : State) (x : Drive) : (s.setDrive x).conds = s.conds := rfl
@[simp] theorem setDrive_watches (s : State) (x : Drive) : (s.setDrive x).watches = s.watches := rfl
@[simp] theorem setDrive_link (s : State) (x : Drive) : (s.setDrive x).link = s.link := rfl
@[simp] theorem setDrive_dockCfg (s : State) (x : Drive) : (s.setDrive x).dockCfg = s.dockCfg := rfl
@[simp] theorem setDrive_responder (s : State) (x : Drive) : (s.setDrive x).responder = s.responder := rfl
@[simp] theorem setDrive_cycle (s : State) (x : Drive) : (s.setDrive x).cycle = s.cycle := rfl
@[simp] theorem setDrive_port (s : State) (x : Drive) : (s.setDrive x).port = s.port := rfl
@[simp] theorem setDrive_reports (s : State) (x : Drive) : (s.setDrive x).reports = s.reports := rfl
@[simp] theorem setDrive_lost (s : State) (x : Drive) : (s.setDrive x).lost = s.lost := rfl
@[simp] theorem setDrive_free (s : State) (x : Drive) : (s.setDrive x).free = s.free := rfl
@[simp] theorem setDrive_pending (s : State) (x : Drive) : (s.setDrive x).pending = s.pending := rfl

@[simp] theorem setMotor_now (s : State) (x : Motor) : (s.setMotor x).now = s.now := rfl
@[simp] theorem setMotor_role (s : State) (x : Motor) : (s.setMotor x).role = s.role := rfl
@[simp] theorem setMotor_evacFit (s : State) (x : Motor) : (s.setMotor x).evacFit = s.evacFit := rfl
@[simp] theorem setMotor_trim (s : State) (x : Motor) : (s.setMotor x).trim = s.trim := rfl
@[simp] theorem setMotor_power (s : State) (x : Motor) : (s.setMotor x).power = s.power := rfl
@[simp] theorem setMotor_pins (s : State) (x : Motor) : (s.setMotor x).pins = s.pins := rfl
@[simp] theorem setMotor_drive (s : State) (x : Motor) : (s.setMotor x).drive = s.drive := rfl
@[simp] theorem setMotor_motor (s : State) (x : Motor) : (s.setMotor x).motor = x := rfl
@[simp] theorem setMotor_driveCfg (s : State) (x : Motor) : (s.setMotor x).driveCfg = s.driveCfg := rfl
@[simp] theorem setMotor_pack (s : State) (x : Motor) : (s.setMotor x).pack = s.pack := rfl
@[simp] theorem setMotor_supply (s : State) (x : Motor) : (s.setMotor x).supply = s.supply := rfl
@[simp] theorem setMotor_monitor (s : State) (x : Motor) : (s.setMotor x).monitor = s.monitor := rfl
@[simp] theorem setMotor_counter (s : State) (x : Motor) : (s.setMotor x).counter = s.counter := rfl
@[simp] theorem setMotor_session (s : State) (x : Motor) : (s.setMotor x).session = s.session := rfl
@[simp] theorem setMotor_chargeCfg (s : State) (x : Motor) : (s.setMotor x).chargeCfg = s.chargeCfg := rfl
@[simp] theorem setMotor_output (s : State) (x : Motor) : (s.setMotor x).output = s.output := rfl
@[simp] theorem setMotor_sensingCfg (s : State) (x : Motor) : (s.setMotor x).sensingCfg = s.sensingCfg := rfl
@[simp] theorem setMotor_dirt (s : State) (x : Motor) : (s.setMotor x).dirt = s.dirt := rfl
@[simp] theorem setMotor_fill (s : State) (x : Motor) : (s.setMotor x).fill = s.fill := rfl
@[simp] theorem setMotor_seq (s : State) (x : Motor) : (s.setMotor x).seq = s.seq := rfl
@[simp] theorem setMotor_conds (s : State) (x : Motor) : (s.setMotor x).conds = s.conds := rfl
@[simp] theorem setMotor_watches (s : State) (x : Motor) : (s.setMotor x).watches = s.watches := rfl
@[simp] theorem setMotor_link (s : State) (x : Motor) : (s.setMotor x).link = s.link := rfl
@[simp] theorem setMotor_dockCfg (s : State) (x : Motor) : (s.setMotor x).dockCfg = s.dockCfg := rfl
@[simp] theorem setMotor_responder (s : State) (x : Motor) : (s.setMotor x).responder = s.responder := rfl
@[simp] theorem setMotor_cycle (s : State) (x : Motor) : (s.setMotor x).cycle = s.cycle := rfl
@[simp] theorem setMotor_port (s : State) (x : Motor) : (s.setMotor x).port = s.port := rfl
@[simp] theorem setMotor_reports (s : State) (x : Motor) : (s.setMotor x).reports = s.reports := rfl
@[simp] theorem setMotor_lost (s : State) (x : Motor) : (s.setMotor x).lost = s.lost := rfl
@[simp] theorem setMotor_free (s : State) (x : Motor) : (s.setMotor x).free = s.free := rfl
@[simp] theorem setMotor_pending (s : State) (x : Motor) : (s.setMotor x).pending = s.pending := rfl

@[simp] theorem setDriveCfg_now (s : State) (x : DriveCfg) : (s.setDriveCfg x).now = s.now := rfl
@[simp] theorem setDriveCfg_role (s : State) (x : DriveCfg) : (s.setDriveCfg x).role = s.role := rfl
@[simp] theorem setDriveCfg_evacFit (s : State) (x : DriveCfg) : (s.setDriveCfg x).evacFit = s.evacFit := rfl
@[simp] theorem setDriveCfg_trim (s : State) (x : DriveCfg) : (s.setDriveCfg x).trim = s.trim := rfl
@[simp] theorem setDriveCfg_power (s : State) (x : DriveCfg) : (s.setDriveCfg x).power = s.power := rfl
@[simp] theorem setDriveCfg_pins (s : State) (x : DriveCfg) : (s.setDriveCfg x).pins = s.pins := rfl
@[simp] theorem setDriveCfg_drive (s : State) (x : DriveCfg) : (s.setDriveCfg x).drive = s.drive := rfl
@[simp] theorem setDriveCfg_motor (s : State) (x : DriveCfg) : (s.setDriveCfg x).motor = s.motor := rfl
@[simp] theorem setDriveCfg_driveCfg (s : State) (x : DriveCfg) : (s.setDriveCfg x).driveCfg = x := rfl
@[simp] theorem setDriveCfg_pack (s : State) (x : DriveCfg) : (s.setDriveCfg x).pack = s.pack := rfl
@[simp] theorem setDriveCfg_supply (s : State) (x : DriveCfg) : (s.setDriveCfg x).supply = s.supply := rfl
@[simp] theorem setDriveCfg_monitor (s : State) (x : DriveCfg) : (s.setDriveCfg x).monitor = s.monitor := rfl
@[simp] theorem setDriveCfg_counter (s : State) (x : DriveCfg) : (s.setDriveCfg x).counter = s.counter := rfl
@[simp] theorem setDriveCfg_session (s : State) (x : DriveCfg) : (s.setDriveCfg x).session = s.session := rfl
@[simp] theorem setDriveCfg_chargeCfg (s : State) (x : DriveCfg) : (s.setDriveCfg x).chargeCfg = s.chargeCfg := rfl
@[simp] theorem setDriveCfg_output (s : State) (x : DriveCfg) : (s.setDriveCfg x).output = s.output := rfl
@[simp] theorem setDriveCfg_sensingCfg (s : State) (x : DriveCfg) : (s.setDriveCfg x).sensingCfg = s.sensingCfg := rfl
@[simp] theorem setDriveCfg_dirt (s : State) (x : DriveCfg) : (s.setDriveCfg x).dirt = s.dirt := rfl
@[simp] theorem setDriveCfg_fill (s : State) (x : DriveCfg) : (s.setDriveCfg x).fill = s.fill := rfl
@[simp] theorem setDriveCfg_seq (s : State) (x : DriveCfg) : (s.setDriveCfg x).seq = s.seq := rfl
@[simp] theorem setDriveCfg_conds (s : State) (x : DriveCfg) : (s.setDriveCfg x).conds = s.conds := rfl
@[simp] theorem setDriveCfg_watches (s : State) (x : DriveCfg) : (s.setDriveCfg x).watches = s.watches := rfl
@[simp] theorem setDriveCfg_link (s : State) (x : DriveCfg) : (s.setDriveCfg x).link = s.link := rfl
@[simp] theorem setDriveCfg_dockCfg (s : State) (x : DriveCfg) : (s.setDriveCfg x).dockCfg = s.dockCfg := rfl
@[simp] theorem setDriveCfg_responder (s : State) (x : DriveCfg) : (s.setDriveCfg x).responder = s.responder := rfl
@[simp] theorem setDriveCfg_cycle (s : State) (x : DriveCfg) : (s.setDriveCfg x).cycle = s.cycle := rfl
@[simp] theorem setDriveCfg_port (s : State) (x : DriveCfg) : (s.setDriveCfg x).port = s.port := rfl
@[simp] theorem setDriveCfg_reports (s : State) (x : DriveCfg) : (s.setDriveCfg x).reports = s.reports := rfl
@[simp] theorem setDriveCfg_lost (s : State) (x : DriveCfg) : (s.setDriveCfg x).lost = s.lost := rfl
@[simp] theorem setDriveCfg_free (s : State) (x : DriveCfg) : (s.setDriveCfg x).free = s.free := rfl
@[simp] theorem setDriveCfg_pending (s : State) (x : DriveCfg) : (s.setDriveCfg x).pending = s.pending := rfl

@[simp] theorem setPack_now (s : State) (x : PackRec) : (s.setPack x).now = s.now := rfl
@[simp] theorem setPack_role (s : State) (x : PackRec) : (s.setPack x).role = s.role := rfl
@[simp] theorem setPack_evacFit (s : State) (x : PackRec) : (s.setPack x).evacFit = s.evacFit := rfl
@[simp] theorem setPack_trim (s : State) (x : PackRec) : (s.setPack x).trim = s.trim := rfl
@[simp] theorem setPack_power (s : State) (x : PackRec) : (s.setPack x).power = s.power := rfl
@[simp] theorem setPack_pins (s : State) (x : PackRec) : (s.setPack x).pins = s.pins := rfl
@[simp] theorem setPack_drive (s : State) (x : PackRec) : (s.setPack x).drive = s.drive := rfl
@[simp] theorem setPack_motor (s : State) (x : PackRec) : (s.setPack x).motor = s.motor := rfl
@[simp] theorem setPack_driveCfg (s : State) (x : PackRec) : (s.setPack x).driveCfg = s.driveCfg := rfl
@[simp] theorem setPack_pack (s : State) (x : PackRec) : (s.setPack x).pack = x := rfl
@[simp] theorem setPack_supply (s : State) (x : PackRec) : (s.setPack x).supply = s.supply := rfl
@[simp] theorem setPack_monitor (s : State) (x : PackRec) : (s.setPack x).monitor = s.monitor := rfl
@[simp] theorem setPack_counter (s : State) (x : PackRec) : (s.setPack x).counter = s.counter := rfl
@[simp] theorem setPack_session (s : State) (x : PackRec) : (s.setPack x).session = s.session := rfl
@[simp] theorem setPack_chargeCfg (s : State) (x : PackRec) : (s.setPack x).chargeCfg = s.chargeCfg := rfl
@[simp] theorem setPack_output (s : State) (x : PackRec) : (s.setPack x).output = s.output := rfl
@[simp] theorem setPack_sensingCfg (s : State) (x : PackRec) : (s.setPack x).sensingCfg = s.sensingCfg := rfl
@[simp] theorem setPack_dirt (s : State) (x : PackRec) : (s.setPack x).dirt = s.dirt := rfl
@[simp] theorem setPack_fill (s : State) (x : PackRec) : (s.setPack x).fill = s.fill := rfl
@[simp] theorem setPack_seq (s : State) (x : PackRec) : (s.setPack x).seq = s.seq := rfl
@[simp] theorem setPack_conds (s : State) (x : PackRec) : (s.setPack x).conds = s.conds := rfl
@[simp] theorem setPack_watches (s : State) (x : PackRec) : (s.setPack x).watches = s.watches := rfl
@[simp] theorem setPack_link (s : State) (x : PackRec) : (s.setPack x).link = s.link := rfl
@[simp] theorem setPack_dockCfg (s : State) (x : PackRec) : (s.setPack x).dockCfg = s.dockCfg := rfl
@[simp] theorem setPack_responder (s : State) (x : PackRec) : (s.setPack x).responder = s.responder := rfl
@[simp] theorem setPack_cycle (s : State) (x : PackRec) : (s.setPack x).cycle = s.cycle := rfl
@[simp] theorem setPack_port (s : State) (x : PackRec) : (s.setPack x).port = s.port := rfl
@[simp] theorem setPack_reports (s : State) (x : PackRec) : (s.setPack x).reports = s.reports := rfl
@[simp] theorem setPack_lost (s : State) (x : PackRec) : (s.setPack x).lost = s.lost := rfl
@[simp] theorem setPack_free (s : State) (x : PackRec) : (s.setPack x).free = s.free := rfl
@[simp] theorem setPack_pending (s : State) (x : PackRec) : (s.setPack x).pending = s.pending := rfl

@[simp] theorem setSupply_now (s : State) (x : SupplyRec) : (s.setSupply x).now = s.now := rfl
@[simp] theorem setSupply_role (s : State) (x : SupplyRec) : (s.setSupply x).role = s.role := rfl
@[simp] theorem setSupply_evacFit (s : State) (x : SupplyRec) : (s.setSupply x).evacFit = s.evacFit := rfl
@[simp] theorem setSupply_trim (s : State) (x : SupplyRec) : (s.setSupply x).trim = s.trim := rfl
@[simp] theorem setSupply_power (s : State) (x : SupplyRec) : (s.setSupply x).power = s.power := rfl
@[simp] theorem setSupply_pins (s : State) (x : SupplyRec) : (s.setSupply x).pins = s.pins := rfl
@[simp] theorem setSupply_drive (s : State) (x : SupplyRec) : (s.setSupply x).drive = s.drive := rfl
@[simp] theorem setSupply_motor (s : State) (x : SupplyRec) : (s.setSupply x).motor = s.motor := rfl
@[simp] theorem setSupply_driveCfg (s : State) (x : SupplyRec) : (s.setSupply x).driveCfg = s.driveCfg := rfl
@[simp] theorem setSupply_pack (s : State) (x : SupplyRec) : (s.setSupply x).pack = s.pack := rfl
@[simp] theorem setSupply_supply (s : State) (x : SupplyRec) : (s.setSupply x).supply = x := rfl
@[simp] theorem setSupply_monitor (s : State) (x : SupplyRec) : (s.setSupply x).monitor = s.monitor := rfl
@[simp] theorem setSupply_counter (s : State) (x : SupplyRec) : (s.setSupply x).counter = s.counter := rfl
@[simp] theorem setSupply_session (s : State) (x : SupplyRec) : (s.setSupply x).session = s.session := rfl
@[simp] theorem setSupply_chargeCfg (s : State) (x : SupplyRec) : (s.setSupply x).chargeCfg = s.chargeCfg := rfl
@[simp] theorem setSupply_output (s : State) (x : SupplyRec) : (s.setSupply x).output = s.output := rfl
@[simp] theorem setSupply_sensingCfg (s : State) (x : SupplyRec) : (s.setSupply x).sensingCfg = s.sensingCfg := rfl
@[simp] theorem setSupply_dirt (s : State) (x : SupplyRec) : (s.setSupply x).dirt = s.dirt := rfl
@[simp] theorem setSupply_fill (s : State) (x : SupplyRec) : (s.setSupply x).fill = s.fill := rfl
@[simp] theorem setSupply_seq (s : State) (x : SupplyRec) : (s.setSupply x).seq = s.seq := rfl
@[simp] theorem setSupply_conds (s : State) (x : SupplyRec) : (s.setSupply x).conds = s.conds := rfl
@[simp] theorem setSupply_watches (s : State) (x : SupplyRec) : (s.setSupply x).watches = s.watches := rfl
@[simp] theorem setSupply_link (s : State) (x : SupplyRec) : (s.setSupply x).link = s.link := rfl
@[simp] theorem setSupply_dockCfg (s : State) (x : SupplyRec) : (s.setSupply x).dockCfg = s.dockCfg := rfl
@[simp] theorem setSupply_responder (s : State) (x : SupplyRec) : (s.setSupply x).responder = s.responder := rfl
@[simp] theorem setSupply_cycle (s : State) (x : SupplyRec) : (s.setSupply x).cycle = s.cycle := rfl
@[simp] theorem setSupply_port (s : State) (x : SupplyRec) : (s.setSupply x).port = s.port := rfl
@[simp] theorem setSupply_reports (s : State) (x : SupplyRec) : (s.setSupply x).reports = s.reports := rfl
@[simp] theorem setSupply_lost (s : State) (x : SupplyRec) : (s.setSupply x).lost = s.lost := rfl
@[simp] theorem setSupply_free (s : State) (x : SupplyRec) : (s.setSupply x).free = s.free := rfl
@[simp] theorem setSupply_pending (s : State) (x : SupplyRec) : (s.setSupply x).pending = s.pending := rfl

@[simp] theorem setMonitor_now (s : State) (x : Monitor) : (s.setMonitor x).now = s.now := rfl
@[simp] theorem setMonitor_role (s : State) (x : Monitor) : (s.setMonitor x).role = s.role := rfl
@[simp] theorem setMonitor_evacFit (s : State) (x : Monitor) : (s.setMonitor x).evacFit = s.evacFit := rfl
@[simp] theorem setMonitor_trim (s : State) (x : Monitor) : (s.setMonitor x).trim = s.trim := rfl
@[simp] theorem setMonitor_power (s : State) (x : Monitor) : (s.setMonitor x).power = s.power := rfl
@[simp] theorem setMonitor_pins (s : State) (x : Monitor) : (s.setMonitor x).pins = s.pins := rfl
@[simp] theorem setMonitor_drive (s : State) (x : Monitor) : (s.setMonitor x).drive = s.drive := rfl
@[simp] theorem setMonitor_motor (s : State) (x : Monitor) : (s.setMonitor x).motor = s.motor := rfl
@[simp] theorem setMonitor_driveCfg (s : State) (x : Monitor) : (s.setMonitor x).driveCfg = s.driveCfg := rfl
@[simp] theorem setMonitor_pack (s : State) (x : Monitor) : (s.setMonitor x).pack = s.pack := rfl
@[simp] theorem setMonitor_supply (s : State) (x : Monitor) : (s.setMonitor x).supply = s.supply := rfl
@[simp] theorem setMonitor_monitor (s : State) (x : Monitor) : (s.setMonitor x).monitor = x := rfl
@[simp] theorem setMonitor_counter (s : State) (x : Monitor) : (s.setMonitor x).counter = s.counter := rfl
@[simp] theorem setMonitor_session (s : State) (x : Monitor) : (s.setMonitor x).session = s.session := rfl
@[simp] theorem setMonitor_chargeCfg (s : State) (x : Monitor) : (s.setMonitor x).chargeCfg = s.chargeCfg := rfl
@[simp] theorem setMonitor_output (s : State) (x : Monitor) : (s.setMonitor x).output = s.output := rfl
@[simp] theorem setMonitor_sensingCfg (s : State) (x : Monitor) : (s.setMonitor x).sensingCfg = s.sensingCfg := rfl
@[simp] theorem setMonitor_dirt (s : State) (x : Monitor) : (s.setMonitor x).dirt = s.dirt := rfl
@[simp] theorem setMonitor_fill (s : State) (x : Monitor) : (s.setMonitor x).fill = s.fill := rfl
@[simp] theorem setMonitor_seq (s : State) (x : Monitor) : (s.setMonitor x).seq = s.seq := rfl
@[simp] theorem setMonitor_conds (s : State) (x : Monitor) : (s.setMonitor x).conds = s.conds := rfl
@[simp] theorem setMonitor_watches (s : State) (x : Monitor) : (s.setMonitor x).watches = s.watches := rfl
@[simp] theorem setMonitor_link (s : State) (x : Monitor) : (s.setMonitor x).link = s.link := rfl
@[simp] theorem setMonitor_dockCfg (s : State) (x : Monitor) : (s.setMonitor x).dockCfg = s.dockCfg := rfl
@[simp] theorem setMonitor_responder (s : State) (x : Monitor) : (s.setMonitor x).responder = s.responder := rfl
@[simp] theorem setMonitor_cycle (s : State) (x : Monitor) : (s.setMonitor x).cycle = s.cycle := rfl
@[simp] theorem setMonitor_port (s : State) (x : Monitor) : (s.setMonitor x).port = s.port := rfl
@[simp] theorem setMonitor_reports (s : State) (x : Monitor) : (s.setMonitor x).reports = s.reports := rfl
@[simp] theorem setMonitor_lost (s : State) (x : Monitor) : (s.setMonitor x).lost = s.lost := rfl
@[simp] theorem setMonitor_free (s : State) (x : Monitor) : (s.setMonitor x).free = s.free := rfl
@[simp] theorem setMonitor_pending (s : State) (x : Monitor) : (s.setMonitor x).pending = s.pending := rfl

@[simp] theorem setCounter_now (s : State) (x : Counter) : (s.setCounter x).now = s.now := rfl
@[simp] theorem setCounter_role (s : State) (x : Counter) : (s.setCounter x).role = s.role := rfl
@[simp] theorem setCounter_evacFit (s : State) (x : Counter) : (s.setCounter x).evacFit = s.evacFit := rfl
@[simp] theorem setCounter_trim (s : State) (x : Counter) : (s.setCounter x).trim = s.trim := rfl
@[simp] theorem setCounter_power (s : State) (x : Counter) : (s.setCounter x).power = s.power := rfl
@[simp] theorem setCounter_pins (s : State) (x : Counter) : (s.setCounter x).pins = s.pins := rfl
@[simp] theorem setCounter_drive (s : State) (x : Counter) : (s.setCounter x).drive = s.drive := rfl
@[simp] theorem setCounter_motor (s : State) (x : Counter) : (s.setCounter x).motor = s.motor := rfl
@[simp] theorem setCounter_driveCfg (s : State) (x : Counter) : (s.setCounter x).driveCfg = s.driveCfg := rfl
@[simp] theorem setCounter_pack (s : State) (x : Counter) : (s.setCounter x).pack = s.pack := rfl
@[simp] theorem setCounter_supply (s : State) (x : Counter) : (s.setCounter x).supply = s.supply := rfl
@[simp] theorem setCounter_monitor (s : State) (x : Counter) : (s.setCounter x).monitor = s.monitor := rfl
@[simp] theorem setCounter_counter (s : State) (x : Counter) : (s.setCounter x).counter = x := rfl
@[simp] theorem setCounter_session (s : State) (x : Counter) : (s.setCounter x).session = s.session := rfl
@[simp] theorem setCounter_chargeCfg (s : State) (x : Counter) : (s.setCounter x).chargeCfg = s.chargeCfg := rfl
@[simp] theorem setCounter_output (s : State) (x : Counter) : (s.setCounter x).output = s.output := rfl
@[simp] theorem setCounter_sensingCfg (s : State) (x : Counter) : (s.setCounter x).sensingCfg = s.sensingCfg := rfl
@[simp] theorem setCounter_dirt (s : State) (x : Counter) : (s.setCounter x).dirt = s.dirt := rfl
@[simp] theorem setCounter_fill (s : State) (x : Counter) : (s.setCounter x).fill = s.fill := rfl
@[simp] theorem setCounter_seq (s : State) (x : Counter) : (s.setCounter x).seq = s.seq := rfl
@[simp] theorem setCounter_conds (s : State) (x : Counter) : (s.setCounter x).conds = s.conds := rfl
@[simp] theorem setCounter_watches (s : State) (x : Counter) : (s.setCounter x).watches = s.watches := rfl
@[simp] theorem setCounter_link (s : State) (x : Counter) : (s.setCounter x).link = s.link := rfl
@[simp] theorem setCounter_dockCfg (s : State) (x : Counter) : (s.setCounter x).dockCfg = s.dockCfg := rfl
@[simp] theorem setCounter_responder (s : State) (x : Counter) : (s.setCounter x).responder = s.responder := rfl
@[simp] theorem setCounter_cycle (s : State) (x : Counter) : (s.setCounter x).cycle = s.cycle := rfl
@[simp] theorem setCounter_port (s : State) (x : Counter) : (s.setCounter x).port = s.port := rfl
@[simp] theorem setCounter_reports (s : State) (x : Counter) : (s.setCounter x).reports = s.reports := rfl
@[simp] theorem setCounter_lost (s : State) (x : Counter) : (s.setCounter x).lost = s.lost := rfl
@[simp] theorem setCounter_free (s : State) (x : Counter) : (s.setCounter x).free = s.free := rfl
@[simp] theorem setCounter_pending (s : State) (x : Counter) : (s.setCounter x).pending = s.pending := rfl

@[simp] theorem setSession_now (s : State) (x : Session) : (s.setSession x).now = s.now := rfl
@[simp] theorem setSession_role (s : State) (x : Session) : (s.setSession x).role = s.role := rfl
@[simp] theorem setSession_evacFit (s : State) (x : Session) : (s.setSession x).evacFit = s.evacFit := rfl
@[simp] theorem setSession_trim (s : State) (x : Session) : (s.setSession x).trim = s.trim := rfl
@[simp] theorem setSession_power (s : State) (x : Session) : (s.setSession x).power = s.power := rfl
@[simp] theorem setSession_pins (s : State) (x : Session) : (s.setSession x).pins = s.pins := rfl
@[simp] theorem setSession_drive (s : State) (x : Session) : (s.setSession x).drive = s.drive := rfl
@[simp] theorem setSession_motor (s : State) (x : Session) : (s.setSession x).motor = s.motor := rfl
@[simp] theorem setSession_driveCfg (s : State) (x : Session) : (s.setSession x).driveCfg = s.driveCfg := rfl
@[simp] theorem setSession_pack (s : State) (x : Session) : (s.setSession x).pack = s.pack := rfl
@[simp] theorem setSession_supply (s : State) (x : Session) : (s.setSession x).supply = s.supply := rfl
@[simp] theorem setSession_monitor (s : State) (x : Session) : (s.setSession x).monitor = s.monitor := rfl
@[simp] theorem setSession_counter (s : State) (x : Session) : (s.setSession x).counter = s.counter := rfl
@[simp] theorem setSession_session (s : State) (x : Session) : (s.setSession x).session = x := rfl
@[simp] theorem setSession_chargeCfg (s : State) (x : Session) : (s.setSession x).chargeCfg = s.chargeCfg := rfl
@[simp] theorem setSession_output (s : State) (x : Session) : (s.setSession x).output = s.output := rfl
@[simp] theorem setSession_sensingCfg (s : State) (x : Session) : (s.setSession x).sensingCfg = s.sensingCfg := rfl
@[simp] theorem setSession_dirt (s : State) (x : Session) : (s.setSession x).dirt = s.dirt := rfl
@[simp] theorem setSession_fill (s : State) (x : Session) : (s.setSession x).fill = s.fill := rfl
@[simp] theorem setSession_seq (s : State) (x : Session) : (s.setSession x).seq = s.seq := rfl
@[simp] theorem setSession_conds (s : State) (x : Session) : (s.setSession x).conds = s.conds := rfl
@[simp] theorem setSession_watches (s : State) (x : Session) : (s.setSession x).watches = s.watches := rfl
@[simp] theorem setSession_link (s : State) (x : Session) : (s.setSession x).link = s.link := rfl
@[simp] theorem setSession_dockCfg (s : State) (x : Session) : (s.setSession x).dockCfg = s.dockCfg := rfl
@[simp] theorem setSession_responder (s : State) (x : Session) : (s.setSession x).responder = s.responder := rfl
@[simp] theorem setSession_cycle (s : State) (x : Session) : (s.setSession x).cycle = s.cycle := rfl
@[simp] theorem setSession_port (s : State) (x : Session) : (s.setSession x).port = s.port := rfl
@[simp] theorem setSession_reports (s : State) (x : Session) : (s.setSession x).reports = s.reports := rfl
@[simp] theorem setSession_lost (s : State) (x : Session) : (s.setSession x).lost = s.lost := rfl
@[simp] theorem setSession_free (s : State) (x : Session) : (s.setSession x).free = s.free := rfl
@[simp] theorem setSession_pending (s : State) (x : Session) : (s.setSession x).pending = s.pending := rfl

@[simp] theorem setChargeCfg_now (s : State) (x : ChargeCfg) : (s.setChargeCfg x).now = s.now := rfl
@[simp] theorem setChargeCfg_role (s : State) (x : ChargeCfg) : (s.setChargeCfg x).role = s.role := rfl
@[simp] theorem setChargeCfg_evacFit (s : State) (x : ChargeCfg) : (s.setChargeCfg x).evacFit = s.evacFit := rfl
@[simp] theorem setChargeCfg_trim (s : State) (x : ChargeCfg) : (s.setChargeCfg x).trim = s.trim := rfl
@[simp] theorem setChargeCfg_power (s : State) (x : ChargeCfg) : (s.setChargeCfg x).power = s.power := rfl
@[simp] theorem setChargeCfg_pins (s : State) (x : ChargeCfg) : (s.setChargeCfg x).pins = s.pins := rfl
@[simp] theorem setChargeCfg_drive (s : State) (x : ChargeCfg) : (s.setChargeCfg x).drive = s.drive := rfl
@[simp] theorem setChargeCfg_motor (s : State) (x : ChargeCfg) : (s.setChargeCfg x).motor = s.motor := rfl
@[simp] theorem setChargeCfg_driveCfg (s : State) (x : ChargeCfg) : (s.setChargeCfg x).driveCfg = s.driveCfg := rfl
@[simp] theorem setChargeCfg_pack (s : State) (x : ChargeCfg) : (s.setChargeCfg x).pack = s.pack := rfl
@[simp] theorem setChargeCfg_supply (s : State) (x : ChargeCfg) : (s.setChargeCfg x).supply = s.supply := rfl
@[simp] theorem setChargeCfg_monitor (s : State) (x : ChargeCfg) : (s.setChargeCfg x).monitor = s.monitor := rfl
@[simp] theorem setChargeCfg_counter (s : State) (x : ChargeCfg) : (s.setChargeCfg x).counter = s.counter := rfl
@[simp] theorem setChargeCfg_session (s : State) (x : ChargeCfg) : (s.setChargeCfg x).session = s.session := rfl
@[simp] theorem setChargeCfg_chargeCfg (s : State) (x : ChargeCfg) : (s.setChargeCfg x).chargeCfg = x := rfl
@[simp] theorem setChargeCfg_output (s : State) (x : ChargeCfg) : (s.setChargeCfg x).output = s.output := rfl
@[simp] theorem setChargeCfg_sensingCfg (s : State) (x : ChargeCfg) : (s.setChargeCfg x).sensingCfg = s.sensingCfg := rfl
@[simp] theorem setChargeCfg_dirt (s : State) (x : ChargeCfg) : (s.setChargeCfg x).dirt = s.dirt := rfl
@[simp] theorem setChargeCfg_fill (s : State) (x : ChargeCfg) : (s.setChargeCfg x).fill = s.fill := rfl
@[simp] theorem setChargeCfg_seq (s : State) (x : ChargeCfg) : (s.setChargeCfg x).seq = s.seq := rfl
@[simp] theorem setChargeCfg_conds (s : State) (x : ChargeCfg) : (s.setChargeCfg x).conds = s.conds := rfl
@[simp] theorem setChargeCfg_watches (s : State) (x : ChargeCfg) : (s.setChargeCfg x).watches = s.watches := rfl
@[simp] theorem setChargeCfg_link (s : State) (x : ChargeCfg) : (s.setChargeCfg x).link = s.link := rfl
@[simp] theorem setChargeCfg_dockCfg (s : State) (x : ChargeCfg) : (s.setChargeCfg x).dockCfg = s.dockCfg := rfl
@[simp] theorem setChargeCfg_responder (s : State) (x : ChargeCfg) : (s.setChargeCfg x).responder = s.responder := rfl
@[simp] theorem setChargeCfg_cycle (s : State) (x : ChargeCfg) : (s.setChargeCfg x).cycle = s.cycle := rfl
@[simp] theorem setChargeCfg_port (s : State) (x : ChargeCfg) : (s.setChargeCfg x).port = s.port := rfl
@[simp] theorem setChargeCfg_reports (s : State) (x : ChargeCfg) : (s.setChargeCfg x).reports = s.reports := rfl
@[simp] theorem setChargeCfg_lost (s : State) (x : ChargeCfg) : (s.setChargeCfg x).lost = s.lost := rfl
@[simp] theorem setChargeCfg_free (s : State) (x : ChargeCfg) : (s.setChargeCfg x).free = s.free := rfl
@[simp] theorem setChargeCfg_pending (s : State) (x : ChargeCfg) : (s.setChargeCfg x).pending = s.pending := rfl

@[simp] theorem setOutput_now (s : State) (x : Output) : (s.setOutput x).now = s.now := rfl
@[simp] theorem setOutput_role (s : State) (x : Output) : (s.setOutput x).role = s.role := rfl
@[simp] theorem setOutput_evacFit (s : State) (x : Output) : (s.setOutput x).evacFit = s.evacFit := rfl
@[simp] theorem setOutput_trim (s : State) (x : Output) : (s.setOutput x).trim = s.trim := rfl
@[simp] theorem setOutput_power (s : State) (x : Output) : (s.setOutput x).power = s.power := rfl
@[simp] theorem setOutput_pins (s : State) (x : Output) : (s.setOutput x).pins = s.pins := rfl
@[simp] theorem setOutput_drive (s : State) (x : Output) : (s.setOutput x).drive = s.drive := rfl
@[simp] theorem setOutput_motor (s : State) (x : Output) : (s.setOutput x).motor = s.motor := rfl
@[simp] theorem setOutput_driveCfg (s : State) (x : Output) : (s.setOutput x).driveCfg = s.driveCfg := rfl
@[simp] theorem setOutput_pack (s : State) (x : Output) : (s.setOutput x).pack = s.pack := rfl
@[simp] theorem setOutput_supply (s : State) (x : Output) : (s.setOutput x).supply = s.supply := rfl
@[simp] theorem setOutput_monitor (s : State) (x : Output) : (s.setOutput x).monitor = s.monitor := rfl
@[simp] theorem setOutput_counter (s : State) (x : Output) : (s.setOutput x).counter = s.counter := rfl
@[simp] theorem setOutput_session (s : State) (x : Output) : (s.setOutput x).session = s.session := rfl
@[simp] theorem setOutput_chargeCfg (s : State) (x : Output) : (s.setOutput x).chargeCfg = s.chargeCfg := rfl
@[simp] theorem setOutput_output (s : State) (x : Output) : (s.setOutput x).output = x := rfl
@[simp] theorem setOutput_sensingCfg (s : State) (x : Output) : (s.setOutput x).sensingCfg = s.sensingCfg := rfl
@[simp] theorem setOutput_dirt (s : State) (x : Output) : (s.setOutput x).dirt = s.dirt := rfl
@[simp] theorem setOutput_fill (s : State) (x : Output) : (s.setOutput x).fill = s.fill := rfl
@[simp] theorem setOutput_seq (s : State) (x : Output) : (s.setOutput x).seq = s.seq := rfl
@[simp] theorem setOutput_conds (s : State) (x : Output) : (s.setOutput x).conds = s.conds := rfl
@[simp] theorem setOutput_watches (s : State) (x : Output) : (s.setOutput x).watches = s.watches := rfl
@[simp] theorem setOutput_link (s : State) (x : Output) : (s.setOutput x).link = s.link := rfl
@[simp] theorem setOutput_dockCfg (s : State) (x : Output) : (s.setOutput x).dockCfg = s.dockCfg := rfl
@[simp] theorem setOutput_responder (s : State) (x : Output) : (s.setOutput x).responder = s.responder := rfl
@[simp] theorem setOutput_cycle (s : State) (x : Output) : (s.setOutput x).cycle = s.cycle := rfl
@[simp] theorem setOutput_port (s : State) (x : Output) : (s.setOutput x).port = s.port := rfl
@[simp] theorem setOutput_reports (s : State) (x : Output) : (s.setOutput x).reports = s.reports := rfl
@[simp] theorem setOutput_lost (s : State) (x : Output) : (s.setOutput x).lost = s.lost := rfl
@[simp] theorem setOutput_free (s : State) (x : Output) : (s.setOutput x).free = s.free := rfl
@[simp] theorem setOutput_pending (s : State) (x : Output) : (s.setOutput x).pending = s.pending := rfl

@[simp] theorem setSensingCfg_now (s : State) (x : SensingCfg) : (s.setSensingCfg x).now = s.now := rfl
@[simp] theorem setSensingCfg_role (s : State) (x : SensingCfg) : (s.setSensingCfg x).role = s.role := rfl
@[simp] theorem setSensingCfg_evacFit (s : State) (x : SensingCfg) : (s.setSensingCfg x).evacFit = s.evacFit := rfl
@[simp] theorem setSensingCfg_trim (s : State) (x : SensingCfg) : (s.setSensingCfg x).trim = s.trim := rfl
@[simp] theorem setSensingCfg_power (s : State) (x : SensingCfg) : (s.setSensingCfg x).power = s.power := rfl
@[simp] theorem setSensingCfg_pins (s : State) (x : SensingCfg) : (s.setSensingCfg x).pins = s.pins := rfl
@[simp] theorem setSensingCfg_drive (s : State) (x : SensingCfg) : (s.setSensingCfg x).drive = s.drive := rfl
@[simp] theorem setSensingCfg_motor (s : State) (x : SensingCfg) : (s.setSensingCfg x).motor = s.motor := rfl
@[simp] theorem setSensingCfg_driveCfg (s : State) (x : SensingCfg) : (s.setSensingCfg x).driveCfg = s.driveCfg := rfl
@[simp] theorem setSensingCfg_pack (s : State) (x : SensingCfg) : (s.setSensingCfg x).pack = s.pack := rfl
@[simp] theorem setSensingCfg_supply (s : State) (x : SensingCfg) : (s.setSensingCfg x).supply = s.supply := rfl
@[simp] theorem setSensingCfg_monitor (s : State) (x : SensingCfg) : (s.setSensingCfg x).monitor = s.monitor := rfl
@[simp] theorem setSensingCfg_counter (s : State) (x : SensingCfg) : (s.setSensingCfg x).counter = s.counter := rfl
@[simp] theorem setSensingCfg_session (s : State) (x : SensingCfg) : (s.setSensingCfg x).session = s.session := rfl
@[simp] theorem setSensingCfg_chargeCfg (s : State) (x : SensingCfg) : (s.setSensingCfg x).chargeCfg = s.chargeCfg := rfl
@[simp] theorem setSensingCfg_output (s : State) (x : SensingCfg) : (s.setSensingCfg x).output = s.output := rfl
@[simp] theorem setSensingCfg_sensingCfg (s : State) (x : SensingCfg) : (s.setSensingCfg x).sensingCfg = x := rfl
@[simp] theorem setSensingCfg_dirt (s : State) (x : SensingCfg) : (s.setSensingCfg x).dirt = s.dirt := rfl
@[simp] theorem setSensingCfg_fill (s : State) (x : SensingCfg) : (s.setSensingCfg x).fill = s.fill := rfl
@[simp] theorem setSensingCfg_seq (s : State) (x : SensingCfg) : (s.setSensingCfg x).seq = s.seq := rfl
@[simp] theorem setSensingCfg_conds (s : State) (x : SensingCfg) : (s.setSensingCfg x).conds = s.conds := rfl
@[simp] theorem setSensingCfg_watches (s : State) (x : SensingCfg) : (s.setSensingCfg x).watches = s.watches := rfl
@[simp] theorem setSensingCfg_link (s : State) (x : SensingCfg) : (s.setSensingCfg x).link = s.link := rfl
@[simp] theorem setSensingCfg_dockCfg (s : State) (x : SensingCfg) : (s.setSensingCfg x).dockCfg = s.dockCfg := rfl
@[simp] theorem setSensingCfg_responder (s : State) (x : SensingCfg) : (s.setSensingCfg x).responder = s.responder := rfl
@[simp] theorem setSensingCfg_cycle (s : State) (x : SensingCfg) : (s.setSensingCfg x).cycle = s.cycle := rfl
@[simp] theorem setSensingCfg_port (s : State) (x : SensingCfg) : (s.setSensingCfg x).port = s.port := rfl
@[simp] theorem setSensingCfg_reports (s : State) (x : SensingCfg) : (s.setSensingCfg x).reports = s.reports := rfl
@[simp] theorem setSensingCfg_lost (s : State) (x : SensingCfg) : (s.setSensingCfg x).lost = s.lost := rfl
@[simp] theorem setSensingCfg_free (s : State) (x : SensingCfg) : (s.setSensingCfg x).free = s.free := rfl
@[simp] theorem setSensingCfg_pending (s : State) (x : SensingCfg) : (s.setSensingCfg x).pending = s.pending := rfl

@[simp] theorem setDirt_now (s : State) (x : Dirt) : (s.setDirt x).now = s.now := rfl
@[simp] theorem setDirt_role (s : State) (x : Dirt) : (s.setDirt x).role = s.role := rfl
@[simp] theorem setDirt_evacFit (s : State) (x : Dirt) : (s.setDirt x).evacFit = s.evacFit := rfl
@[simp] theorem setDirt_trim (s : State) (x : Dirt) : (s.setDirt x).trim = s.trim := rfl
@[simp] theorem setDirt_power (s : State) (x : Dirt) : (s.setDirt x).power = s.power := rfl
@[simp] theorem setDirt_pins (s : State) (x : Dirt) : (s.setDirt x).pins = s.pins := rfl
@[simp] theorem setDirt_drive (s : State) (x : Dirt) : (s.setDirt x).drive = s.drive := rfl
@[simp] theorem setDirt_motor (s : State) (x : Dirt) : (s.setDirt x).motor = s.motor := rfl
@[simp] theorem setDirt_driveCfg (s : State) (x : Dirt) : (s.setDirt x).driveCfg = s.driveCfg := rfl
@[simp] theorem setDirt_pack (s : State) (x : Dirt) : (s.setDirt x).pack = s.pack := rfl
@[simp] theorem setDirt_supply (s : State) (x : Dirt) : (s.setDirt x).supply = s.supply := rfl
@[simp] theorem setDirt_monitor (s : State) (x : Dirt) : (s.setDirt x).monitor = s.monitor := rfl
@[simp] theorem setDirt_counter (s : State) (x : Dirt) : (s.setDirt x).counter = s.counter := rfl
@[simp] theorem setDirt_session (s : State) (x : Dirt) : (s.setDirt x).session = s.session := rfl
@[simp] theorem setDirt_chargeCfg (s : State) (x : Dirt) : (s.setDirt x).chargeCfg = s.chargeCfg := rfl
@[simp] theorem setDirt_output (s : State) (x : Dirt) : (s.setDirt x).output = s.output := rfl
@[simp] theorem setDirt_sensingCfg (s : State) (x : Dirt) : (s.setDirt x).sensingCfg = s.sensingCfg := rfl
@[simp] theorem setDirt_dirt (s : State) (x : Dirt) : (s.setDirt x).dirt = x := rfl
@[simp] theorem setDirt_fill (s : State) (x : Dirt) : (s.setDirt x).fill = s.fill := rfl
@[simp] theorem setDirt_seq (s : State) (x : Dirt) : (s.setDirt x).seq = s.seq := rfl
@[simp] theorem setDirt_conds (s : State) (x : Dirt) : (s.setDirt x).conds = s.conds := rfl
@[simp] theorem setDirt_watches (s : State) (x : Dirt) : (s.setDirt x).watches = s.watches := rfl
@[simp] theorem setDirt_link (s : State) (x : Dirt) : (s.setDirt x).link = s.link := rfl
@[simp] theorem setDirt_dockCfg (s : State) (x : Dirt) : (s.setDirt x).dockCfg = s.dockCfg := rfl
@[simp] theorem setDirt_responder (s : State) (x : Dirt) : (s.setDirt x).responder = s.responder := rfl
@[simp] theorem setDirt_cycle (s : State) (x : Dirt) : (s.setDirt x).cycle = s.cycle := rfl
@[simp] theorem setDirt_port (s : State) (x : Dirt) : (s.setDirt x).port = s.port := rfl
@[simp] theorem setDirt_reports (s : State) (x : Dirt) : (s.setDirt x).reports = s.reports := rfl
@[simp] theorem setDirt_lost (s : State) (x : Dirt) : (s.setDirt x).lost = s.lost := rfl
@[simp] theorem setDirt_free (s : State) (x : Dirt) : (s.setDirt x).free = s.free := rfl
@[simp] theorem setDirt_pending (s : State) (x : Dirt) : (s.setDirt x).pending = s.pending := rfl

@[simp] theorem setFill_now (s : State) (x : Fill) : (s.setFill x).now = s.now := rfl
@[simp] theorem setFill_role (s : State) (x : Fill) : (s.setFill x).role = s.role := rfl
@[simp] theorem setFill_evacFit (s : State) (x : Fill) : (s.setFill x).evacFit = s.evacFit := rfl
@[simp] theorem setFill_trim (s : State) (x : Fill) : (s.setFill x).trim = s.trim := rfl
@[simp] theorem setFill_power (s : State) (x : Fill) : (s.setFill x).power = s.power := rfl
@[simp] theorem setFill_pins (s : State) (x : Fill) : (s.setFill x).pins = s.pins := rfl
@[simp] theorem setFill_drive (s : State) (x : Fill) : (s.setFill x).drive = s.drive := rfl
@[simp] theorem setFill_motor (s : State) (x : Fill) : (s.setFill x).motor = s.motor := rfl
@[simp] theorem setFill_driveCfg (s : State) (x : Fill) : (s.setFill x).driveCfg = s.driveCfg := rfl
@[simp] theorem setFill_pack (s : State) (x : Fill) : (s.setFill x).pack = s.pack := rfl
@[simp] theorem setFill_supply (s : State) (x : Fill) : (s.setFill x).supply = s.supply := rfl
@[simp] theorem setFill_monitor (s : State) (x : Fill) : (s.setFill x).monitor = s.monitor := rfl
@[simp] theorem setFill_counter (s : State) (x : Fill) : (s.setFill x).counter = s.counter := rfl
@[simp] theorem setFill_session (s : State) (x : Fill) : (s.setFill x).session = s.session := rfl
@[simp] theorem setFill_chargeCfg (s : State) (x : Fill) : (s.setFill x).chargeCfg = s.chargeCfg := rfl
@[simp] theorem setFill_output (s : State) (x : Fill) : (s.setFill x).output = s.output := rfl
@[simp] theorem setFill_sensingCfg (s : State) (x : Fill) : (s.setFill x).sensingCfg = s.sensingCfg := rfl
@[simp] theorem setFill_dirt (s : State) (x : Fill) : (s.setFill x).dirt = s.dirt := rfl
@[simp] theorem setFill_fill (s : State) (x : Fill) : (s.setFill x).fill = x := rfl
@[simp] theorem setFill_seq (s : State) (x : Fill) : (s.setFill x).seq = s.seq := rfl
@[simp] theorem setFill_conds (s : State) (x : Fill) : (s.setFill x).conds = s.conds := rfl
@[simp] theorem setFill_watches (s : State) (x : Fill) : (s.setFill x).watches = s.watches := rfl
@[simp] theorem setFill_link (s : State) (x : Fill) : (s.setFill x).link = s.link := rfl
@[simp] theorem setFill_dockCfg (s : State) (x : Fill) : (s.setFill x).dockCfg = s.dockCfg := rfl
@[simp] theorem setFill_responder (s : State) (x : Fill) : (s.setFill x).responder = s.responder := rfl
@[simp] theorem setFill_cycle (s : State) (x : Fill) : (s.setFill x).cycle = s.cycle := rfl
@[simp] theorem setFill_port (s : State) (x : Fill) : (s.setFill x).port = s.port := rfl
@[simp] theorem setFill_reports (s : State) (x : Fill) : (s.setFill x).reports = s.reports := rfl
@[simp] theorem setFill_lost (s : State) (x : Fill) : (s.setFill x).lost = s.lost := rfl
@[simp] theorem setFill_free (s : State) (x : Fill) : (s.setFill x).free = s.free := rfl
@[simp] theorem setFill_pending (s : State) (x : Fill) : (s.setFill x).pending = s.pending := rfl

@[simp] theorem setSeq_now (s : State) (x : Sequencer) : (s.setSeq x).now = s.now := rfl
@[simp] theorem setSeq_role (s : State) (x : Sequencer) : (s.setSeq x).role = s.role := rfl
@[simp] theorem setSeq_evacFit (s : State) (x : Sequencer) : (s.setSeq x).evacFit = s.evacFit := rfl
@[simp] theorem setSeq_trim (s : State) (x : Sequencer) : (s.setSeq x).trim = s.trim := rfl
@[simp] theorem setSeq_power (s : State) (x : Sequencer) : (s.setSeq x).power = s.power := rfl
@[simp] theorem setSeq_pins (s : State) (x : Sequencer) : (s.setSeq x).pins = s.pins := rfl
@[simp] theorem setSeq_drive (s : State) (x : Sequencer) : (s.setSeq x).drive = s.drive := rfl
@[simp] theorem setSeq_motor (s : State) (x : Sequencer) : (s.setSeq x).motor = s.motor := rfl
@[simp] theorem setSeq_driveCfg (s : State) (x : Sequencer) : (s.setSeq x).driveCfg = s.driveCfg := rfl
@[simp] theorem setSeq_pack (s : State) (x : Sequencer) : (s.setSeq x).pack = s.pack := rfl
@[simp] theorem setSeq_supply (s : State) (x : Sequencer) : (s.setSeq x).supply = s.supply := rfl
@[simp] theorem setSeq_monitor (s : State) (x : Sequencer) : (s.setSeq x).monitor = s.monitor := rfl
@[simp] theorem setSeq_counter (s : State) (x : Sequencer) : (s.setSeq x).counter = s.counter := rfl
@[simp] theorem setSeq_session (s : State) (x : Sequencer) : (s.setSeq x).session = s.session := rfl
@[simp] theorem setSeq_chargeCfg (s : State) (x : Sequencer) : (s.setSeq x).chargeCfg = s.chargeCfg := rfl
@[simp] theorem setSeq_output (s : State) (x : Sequencer) : (s.setSeq x).output = s.output := rfl
@[simp] theorem setSeq_sensingCfg (s : State) (x : Sequencer) : (s.setSeq x).sensingCfg = s.sensingCfg := rfl
@[simp] theorem setSeq_dirt (s : State) (x : Sequencer) : (s.setSeq x).dirt = s.dirt := rfl
@[simp] theorem setSeq_fill (s : State) (x : Sequencer) : (s.setSeq x).fill = s.fill := rfl
@[simp] theorem setSeq_seq (s : State) (x : Sequencer) : (s.setSeq x).seq = x := rfl
@[simp] theorem setSeq_conds (s : State) (x : Sequencer) : (s.setSeq x).conds = s.conds := rfl
@[simp] theorem setSeq_watches (s : State) (x : Sequencer) : (s.setSeq x).watches = s.watches := rfl
@[simp] theorem setSeq_link (s : State) (x : Sequencer) : (s.setSeq x).link = s.link := rfl
@[simp] theorem setSeq_dockCfg (s : State) (x : Sequencer) : (s.setSeq x).dockCfg = s.dockCfg := rfl
@[simp] theorem setSeq_responder (s : State) (x : Sequencer) : (s.setSeq x).responder = s.responder := rfl
@[simp] theorem setSeq_cycle (s : State) (x : Sequencer) : (s.setSeq x).cycle = s.cycle := rfl
@[simp] theorem setSeq_port (s : State) (x : Sequencer) : (s.setSeq x).port = s.port := rfl
@[simp] theorem setSeq_reports (s : State) (x : Sequencer) : (s.setSeq x).reports = s.reports := rfl
@[simp] theorem setSeq_lost (s : State) (x : Sequencer) : (s.setSeq x).lost = s.lost := rfl
@[simp] theorem setSeq_free (s : State) (x : Sequencer) : (s.setSeq x).free = s.free := rfl
@[simp] theorem setSeq_pending (s : State) (x : Sequencer) : (s.setSeq x).pending = s.pending := rfl

@[simp] theorem setConds_now (s : State) (x : List CondRec) : (s.setConds x).now = s.now := rfl
@[simp] theorem setConds_role (s : State) (x : List CondRec) : (s.setConds x).role = s.role := rfl
@[simp] theorem setConds_evacFit (s : State) (x : List CondRec) : (s.setConds x).evacFit = s.evacFit := rfl
@[simp] theorem setConds_trim (s : State) (x : List CondRec) : (s.setConds x).trim = s.trim := rfl
@[simp] theorem setConds_power (s : State) (x : List CondRec) : (s.setConds x).power = s.power := rfl
@[simp] theorem setConds_pins (s : State) (x : List CondRec) : (s.setConds x).pins = s.pins := rfl
@[simp] theorem setConds_drive (s : State) (x : List CondRec) : (s.setConds x).drive = s.drive := rfl
@[simp] theorem setConds_motor (s : State) (x : List CondRec) : (s.setConds x).motor = s.motor := rfl
@[simp] theorem setConds_driveCfg (s : State) (x : List CondRec) : (s.setConds x).driveCfg = s.driveCfg := rfl
@[simp] theorem setConds_pack (s : State) (x : List CondRec) : (s.setConds x).pack = s.pack := rfl
@[simp] theorem setConds_supply (s : State) (x : List CondRec) : (s.setConds x).supply = s.supply := rfl
@[simp] theorem setConds_monitor (s : State) (x : List CondRec) : (s.setConds x).monitor = s.monitor := rfl
@[simp] theorem setConds_counter (s : State) (x : List CondRec) : (s.setConds x).counter = s.counter := rfl
@[simp] theorem setConds_session (s : State) (x : List CondRec) : (s.setConds x).session = s.session := rfl
@[simp] theorem setConds_chargeCfg (s : State) (x : List CondRec) : (s.setConds x).chargeCfg = s.chargeCfg := rfl
@[simp] theorem setConds_output (s : State) (x : List CondRec) : (s.setConds x).output = s.output := rfl
@[simp] theorem setConds_sensingCfg (s : State) (x : List CondRec) : (s.setConds x).sensingCfg = s.sensingCfg := rfl
@[simp] theorem setConds_dirt (s : State) (x : List CondRec) : (s.setConds x).dirt = s.dirt := rfl
@[simp] theorem setConds_fill (s : State) (x : List CondRec) : (s.setConds x).fill = s.fill := rfl
@[simp] theorem setConds_seq (s : State) (x : List CondRec) : (s.setConds x).seq = s.seq := rfl
@[simp] theorem setConds_conds (s : State) (x : List CondRec) : (s.setConds x).conds = x := rfl
@[simp] theorem setConds_watches (s : State) (x : List CondRec) : (s.setConds x).watches = s.watches := rfl
@[simp] theorem setConds_link (s : State) (x : List CondRec) : (s.setConds x).link = s.link := rfl
@[simp] theorem setConds_dockCfg (s : State) (x : List CondRec) : (s.setConds x).dockCfg = s.dockCfg := rfl
@[simp] theorem setConds_responder (s : State) (x : List CondRec) : (s.setConds x).responder = s.responder := rfl
@[simp] theorem setConds_cycle (s : State) (x : List CondRec) : (s.setConds x).cycle = s.cycle := rfl
@[simp] theorem setConds_port (s : State) (x : List CondRec) : (s.setConds x).port = s.port := rfl
@[simp] theorem setConds_reports (s : State) (x : List CondRec) : (s.setConds x).reports = s.reports := rfl
@[simp] theorem setConds_lost (s : State) (x : List CondRec) : (s.setConds x).lost = s.lost := rfl
@[simp] theorem setConds_free (s : State) (x : List CondRec) : (s.setConds x).free = s.free := rfl
@[simp] theorem setConds_pending (s : State) (x : List CondRec) : (s.setConds x).pending = s.pending := rfl

@[simp] theorem setWatches_now (s : State) (x : Vector (Option Watch) 8) : (s.setWatches x).now = s.now := rfl
@[simp] theorem setWatches_role (s : State) (x : Vector (Option Watch) 8) : (s.setWatches x).role = s.role := rfl
@[simp] theorem setWatches_evacFit (s : State) (x : Vector (Option Watch) 8) : (s.setWatches x).evacFit = s.evacFit := rfl
@[simp] theorem setWatches_trim (s : State) (x : Vector (Option Watch) 8) : (s.setWatches x).trim = s.trim := rfl
@[simp] theorem setWatches_power (s : State) (x : Vector (Option Watch) 8) : (s.setWatches x).power = s.power := rfl
@[simp] theorem setWatches_pins (s : State) (x : Vector (Option Watch) 8) : (s.setWatches x).pins = s.pins := rfl
@[simp] theorem setWatches_drive (s : State) (x : Vector (Option Watch) 8) : (s.setWatches x).drive = s.drive := rfl
@[simp] theorem setWatches_motor (s : State) (x : Vector (Option Watch) 8) : (s.setWatches x).motor = s.motor := rfl
@[simp] theorem setWatches_driveCfg (s : State) (x : Vector (Option Watch) 8) : (s.setWatches x).driveCfg = s.driveCfg := rfl
@[simp] theorem setWatches_pack (s : State) (x : Vector (Option Watch) 8) : (s.setWatches x).pack = s.pack := rfl
@[simp] theorem setWatches_supply (s : State) (x : Vector (Option Watch) 8) : (s.setWatches x).supply = s.supply := rfl
@[simp] theorem setWatches_monitor (s : State) (x : Vector (Option Watch) 8) : (s.setWatches x).monitor = s.monitor := rfl
@[simp] theorem setWatches_counter (s : State) (x : Vector (Option Watch) 8) : (s.setWatches x).counter = s.counter := rfl
@[simp] theorem setWatches_session (s : State) (x : Vector (Option Watch) 8) : (s.setWatches x).session = s.session := rfl
@[simp] theorem setWatches_chargeCfg (s : State) (x : Vector (Option Watch) 8) : (s.setWatches x).chargeCfg = s.chargeCfg := rfl
@[simp] theorem setWatches_output (s : State) (x : Vector (Option Watch) 8) : (s.setWatches x).output = s.output := rfl
@[simp] theorem setWatches_sensingCfg (s : State) (x : Vector (Option Watch) 8) : (s.setWatches x).sensingCfg = s.sensingCfg := rfl
@[simp] theorem setWatches_dirt (s : State) (x : Vector (Option Watch) 8) : (s.setWatches x).dirt = s.dirt := rfl
@[simp] theorem setWatches_fill (s : State) (x : Vector (Option Watch) 8) : (s.setWatches x).fill = s.fill := rfl
@[simp] theorem setWatches_seq (s : State) (x : Vector (Option Watch) 8) : (s.setWatches x).seq = s.seq := rfl
@[simp] theorem setWatches_conds (s : State) (x : Vector (Option Watch) 8) : (s.setWatches x).conds = s.conds := rfl
@[simp] theorem setWatches_watches (s : State) (x : Vector (Option Watch) 8) : (s.setWatches x).watches = x := rfl
@[simp] theorem setWatches_link (s : State) (x : Vector (Option Watch) 8) : (s.setWatches x).link = s.link := rfl
@[simp] theorem setWatches_dockCfg (s : State) (x : Vector (Option Watch) 8) : (s.setWatches x).dockCfg = s.dockCfg := rfl
@[simp] theorem setWatches_responder (s : State) (x : Vector (Option Watch) 8) : (s.setWatches x).responder = s.responder := rfl
@[simp] theorem setWatches_cycle (s : State) (x : Vector (Option Watch) 8) : (s.setWatches x).cycle = s.cycle := rfl
@[simp] theorem setWatches_port (s : State) (x : Vector (Option Watch) 8) : (s.setWatches x).port = s.port := rfl
@[simp] theorem setWatches_reports (s : State) (x : Vector (Option Watch) 8) : (s.setWatches x).reports = s.reports := rfl
@[simp] theorem setWatches_lost (s : State) (x : Vector (Option Watch) 8) : (s.setWatches x).lost = s.lost := rfl
@[simp] theorem setWatches_free (s : State) (x : Vector (Option Watch) 8) : (s.setWatches x).free = s.free := rfl
@[simp] theorem setWatches_pending (s : State) (x : Vector (Option Watch) 8) : (s.setWatches x).pending = s.pending := rfl

@[simp] theorem setLink_now (s : State) (x : Link) : (s.setLink x).now = s.now := rfl
@[simp] theorem setLink_role (s : State) (x : Link) : (s.setLink x).role = s.role := rfl
@[simp] theorem setLink_evacFit (s : State) (x : Link) : (s.setLink x).evacFit = s.evacFit := rfl
@[simp] theorem setLink_trim (s : State) (x : Link) : (s.setLink x).trim = s.trim := rfl
@[simp] theorem setLink_power (s : State) (x : Link) : (s.setLink x).power = s.power := rfl
@[simp] theorem setLink_pins (s : State) (x : Link) : (s.setLink x).pins = s.pins := rfl
@[simp] theorem setLink_drive (s : State) (x : Link) : (s.setLink x).drive = s.drive := rfl
@[simp] theorem setLink_motor (s : State) (x : Link) : (s.setLink x).motor = s.motor := rfl
@[simp] theorem setLink_driveCfg (s : State) (x : Link) : (s.setLink x).driveCfg = s.driveCfg := rfl
@[simp] theorem setLink_pack (s : State) (x : Link) : (s.setLink x).pack = s.pack := rfl
@[simp] theorem setLink_supply (s : State) (x : Link) : (s.setLink x).supply = s.supply := rfl
@[simp] theorem setLink_monitor (s : State) (x : Link) : (s.setLink x).monitor = s.monitor := rfl
@[simp] theorem setLink_counter (s : State) (x : Link) : (s.setLink x).counter = s.counter := rfl
@[simp] theorem setLink_session (s : State) (x : Link) : (s.setLink x).session = s.session := rfl
@[simp] theorem setLink_chargeCfg (s : State) (x : Link) : (s.setLink x).chargeCfg = s.chargeCfg := rfl
@[simp] theorem setLink_output (s : State) (x : Link) : (s.setLink x).output = s.output := rfl
@[simp] theorem setLink_sensingCfg (s : State) (x : Link) : (s.setLink x).sensingCfg = s.sensingCfg := rfl
@[simp] theorem setLink_dirt (s : State) (x : Link) : (s.setLink x).dirt = s.dirt := rfl
@[simp] theorem setLink_fill (s : State) (x : Link) : (s.setLink x).fill = s.fill := rfl
@[simp] theorem setLink_seq (s : State) (x : Link) : (s.setLink x).seq = s.seq := rfl
@[simp] theorem setLink_conds (s : State) (x : Link) : (s.setLink x).conds = s.conds := rfl
@[simp] theorem setLink_watches (s : State) (x : Link) : (s.setLink x).watches = s.watches := rfl
@[simp] theorem setLink_link (s : State) (x : Link) : (s.setLink x).link = x := rfl
@[simp] theorem setLink_dockCfg (s : State) (x : Link) : (s.setLink x).dockCfg = s.dockCfg := rfl
@[simp] theorem setLink_responder (s : State) (x : Link) : (s.setLink x).responder = s.responder := rfl
@[simp] theorem setLink_cycle (s : State) (x : Link) : (s.setLink x).cycle = s.cycle := rfl
@[simp] theorem setLink_port (s : State) (x : Link) : (s.setLink x).port = s.port := rfl
@[simp] theorem setLink_reports (s : State) (x : Link) : (s.setLink x).reports = s.reports := rfl
@[simp] theorem setLink_lost (s : State) (x : Link) : (s.setLink x).lost = s.lost := rfl
@[simp] theorem setLink_free (s : State) (x : Link) : (s.setLink x).free = s.free := rfl
@[simp] theorem setLink_pending (s : State) (x : Link) : (s.setLink x).pending = s.pending := rfl

@[simp] theorem setDockCfg_now (s : State) (x : DockCfg) : (s.setDockCfg x).now = s.now := rfl
@[simp] theorem setDockCfg_role (s : State) (x : DockCfg) : (s.setDockCfg x).role = s.role := rfl
@[simp] theorem setDockCfg_evacFit (s : State) (x : DockCfg) : (s.setDockCfg x).evacFit = s.evacFit := rfl
@[simp] theorem setDockCfg_trim (s : State) (x : DockCfg) : (s.setDockCfg x).trim = s.trim := rfl
@[simp] theorem setDockCfg_power (s : State) (x : DockCfg) : (s.setDockCfg x).power = s.power := rfl
@[simp] theorem setDockCfg_pins (s : State) (x : DockCfg) : (s.setDockCfg x).pins = s.pins := rfl
@[simp] theorem setDockCfg_drive (s : State) (x : DockCfg) : (s.setDockCfg x).drive = s.drive := rfl
@[simp] theorem setDockCfg_motor (s : State) (x : DockCfg) : (s.setDockCfg x).motor = s.motor := rfl
@[simp] theorem setDockCfg_driveCfg (s : State) (x : DockCfg) : (s.setDockCfg x).driveCfg = s.driveCfg := rfl
@[simp] theorem setDockCfg_pack (s : State) (x : DockCfg) : (s.setDockCfg x).pack = s.pack := rfl
@[simp] theorem setDockCfg_supply (s : State) (x : DockCfg) : (s.setDockCfg x).supply = s.supply := rfl
@[simp] theorem setDockCfg_monitor (s : State) (x : DockCfg) : (s.setDockCfg x).monitor = s.monitor := rfl
@[simp] theorem setDockCfg_counter (s : State) (x : DockCfg) : (s.setDockCfg x).counter = s.counter := rfl
@[simp] theorem setDockCfg_session (s : State) (x : DockCfg) : (s.setDockCfg x).session = s.session := rfl
@[simp] theorem setDockCfg_chargeCfg (s : State) (x : DockCfg) : (s.setDockCfg x).chargeCfg = s.chargeCfg := rfl
@[simp] theorem setDockCfg_output (s : State) (x : DockCfg) : (s.setDockCfg x).output = s.output := rfl
@[simp] theorem setDockCfg_sensingCfg (s : State) (x : DockCfg) : (s.setDockCfg x).sensingCfg = s.sensingCfg := rfl
@[simp] theorem setDockCfg_dirt (s : State) (x : DockCfg) : (s.setDockCfg x).dirt = s.dirt := rfl
@[simp] theorem setDockCfg_fill (s : State) (x : DockCfg) : (s.setDockCfg x).fill = s.fill := rfl
@[simp] theorem setDockCfg_seq (s : State) (x : DockCfg) : (s.setDockCfg x).seq = s.seq := rfl
@[simp] theorem setDockCfg_conds (s : State) (x : DockCfg) : (s.setDockCfg x).conds = s.conds := rfl
@[simp] theorem setDockCfg_watches (s : State) (x : DockCfg) : (s.setDockCfg x).watches = s.watches := rfl
@[simp] theorem setDockCfg_link (s : State) (x : DockCfg) : (s.setDockCfg x).link = s.link := rfl
@[simp] theorem setDockCfg_dockCfg (s : State) (x : DockCfg) : (s.setDockCfg x).dockCfg = x := rfl
@[simp] theorem setDockCfg_responder (s : State) (x : DockCfg) : (s.setDockCfg x).responder = s.responder := rfl
@[simp] theorem setDockCfg_cycle (s : State) (x : DockCfg) : (s.setDockCfg x).cycle = s.cycle := rfl
@[simp] theorem setDockCfg_port (s : State) (x : DockCfg) : (s.setDockCfg x).port = s.port := rfl
@[simp] theorem setDockCfg_reports (s : State) (x : DockCfg) : (s.setDockCfg x).reports = s.reports := rfl
@[simp] theorem setDockCfg_lost (s : State) (x : DockCfg) : (s.setDockCfg x).lost = s.lost := rfl
@[simp] theorem setDockCfg_free (s : State) (x : DockCfg) : (s.setDockCfg x).free = s.free := rfl
@[simp] theorem setDockCfg_pending (s : State) (x : DockCfg) : (s.setDockCfg x).pending = s.pending := rfl

@[simp] theorem setResponder_now (s : State) (x : Responder) : (s.setResponder x).now = s.now := rfl
@[simp] theorem setResponder_role (s : State) (x : Responder) : (s.setResponder x).role = s.role := rfl
@[simp] theorem setResponder_evacFit (s : State) (x : Responder) : (s.setResponder x).evacFit = s.evacFit := rfl
@[simp] theorem setResponder_trim (s : State) (x : Responder) : (s.setResponder x).trim = s.trim := rfl
@[simp] theorem setResponder_power (s : State) (x : Responder) : (s.setResponder x).power = s.power := rfl
@[simp] theorem setResponder_pins (s : State) (x : Responder) : (s.setResponder x).pins = s.pins := rfl
@[simp] theorem setResponder_drive (s : State) (x : Responder) : (s.setResponder x).drive = s.drive := rfl
@[simp] theorem setResponder_motor (s : State) (x : Responder) : (s.setResponder x).motor = s.motor := rfl
@[simp] theorem setResponder_driveCfg (s : State) (x : Responder) : (s.setResponder x).driveCfg = s.driveCfg := rfl
@[simp] theorem setResponder_pack (s : State) (x : Responder) : (s.setResponder x).pack = s.pack := rfl
@[simp] theorem setResponder_supply (s : State) (x : Responder) : (s.setResponder x).supply = s.supply := rfl
@[simp] theorem setResponder_monitor (s : State) (x : Responder) : (s.setResponder x).monitor = s.monitor := rfl
@[simp] theorem setResponder_counter (s : State) (x : Responder) : (s.setResponder x).counter = s.counter := rfl
@[simp] theorem setResponder_session (s : State) (x : Responder) : (s.setResponder x).session = s.session := rfl
@[simp] theorem setResponder_chargeCfg (s : State) (x : Responder) : (s.setResponder x).chargeCfg = s.chargeCfg := rfl
@[simp] theorem setResponder_output (s : State) (x : Responder) : (s.setResponder x).output = s.output := rfl
@[simp] theorem setResponder_sensingCfg (s : State) (x : Responder) : (s.setResponder x).sensingCfg = s.sensingCfg := rfl
@[simp] theorem setResponder_dirt (s : State) (x : Responder) : (s.setResponder x).dirt = s.dirt := rfl
@[simp] theorem setResponder_fill (s : State) (x : Responder) : (s.setResponder x).fill = s.fill := rfl
@[simp] theorem setResponder_seq (s : State) (x : Responder) : (s.setResponder x).seq = s.seq := rfl
@[simp] theorem setResponder_conds (s : State) (x : Responder) : (s.setResponder x).conds = s.conds := rfl
@[simp] theorem setResponder_watches (s : State) (x : Responder) : (s.setResponder x).watches = s.watches := rfl
@[simp] theorem setResponder_link (s : State) (x : Responder) : (s.setResponder x).link = s.link := rfl
@[simp] theorem setResponder_dockCfg (s : State) (x : Responder) : (s.setResponder x).dockCfg = s.dockCfg := rfl
@[simp] theorem setResponder_responder (s : State) (x : Responder) : (s.setResponder x).responder = x := rfl
@[simp] theorem setResponder_cycle (s : State) (x : Responder) : (s.setResponder x).cycle = s.cycle := rfl
@[simp] theorem setResponder_port (s : State) (x : Responder) : (s.setResponder x).port = s.port := rfl
@[simp] theorem setResponder_reports (s : State) (x : Responder) : (s.setResponder x).reports = s.reports := rfl
@[simp] theorem setResponder_lost (s : State) (x : Responder) : (s.setResponder x).lost = s.lost := rfl
@[simp] theorem setResponder_free (s : State) (x : Responder) : (s.setResponder x).free = s.free := rfl
@[simp] theorem setResponder_pending (s : State) (x : Responder) : (s.setResponder x).pending = s.pending := rfl

@[simp] theorem setCycle_now (s : State) (x : Cycle) : (s.setCycle x).now = s.now := rfl
@[simp] theorem setCycle_role (s : State) (x : Cycle) : (s.setCycle x).role = s.role := rfl
@[simp] theorem setCycle_evacFit (s : State) (x : Cycle) : (s.setCycle x).evacFit = s.evacFit := rfl
@[simp] theorem setCycle_trim (s : State) (x : Cycle) : (s.setCycle x).trim = s.trim := rfl
@[simp] theorem setCycle_power (s : State) (x : Cycle) : (s.setCycle x).power = s.power := rfl
@[simp] theorem setCycle_pins (s : State) (x : Cycle) : (s.setCycle x).pins = s.pins := rfl
@[simp] theorem setCycle_drive (s : State) (x : Cycle) : (s.setCycle x).drive = s.drive := rfl
@[simp] theorem setCycle_motor (s : State) (x : Cycle) : (s.setCycle x).motor = s.motor := rfl
@[simp] theorem setCycle_driveCfg (s : State) (x : Cycle) : (s.setCycle x).driveCfg = s.driveCfg := rfl
@[simp] theorem setCycle_pack (s : State) (x : Cycle) : (s.setCycle x).pack = s.pack := rfl
@[simp] theorem setCycle_supply (s : State) (x : Cycle) : (s.setCycle x).supply = s.supply := rfl
@[simp] theorem setCycle_monitor (s : State) (x : Cycle) : (s.setCycle x).monitor = s.monitor := rfl
@[simp] theorem setCycle_counter (s : State) (x : Cycle) : (s.setCycle x).counter = s.counter := rfl
@[simp] theorem setCycle_session (s : State) (x : Cycle) : (s.setCycle x).session = s.session := rfl
@[simp] theorem setCycle_chargeCfg (s : State) (x : Cycle) : (s.setCycle x).chargeCfg = s.chargeCfg := rfl
@[simp] theorem setCycle_output (s : State) (x : Cycle) : (s.setCycle x).output = s.output := rfl
@[simp] theorem setCycle_sensingCfg (s : State) (x : Cycle) : (s.setCycle x).sensingCfg = s.sensingCfg := rfl
@[simp] theorem setCycle_dirt (s : State) (x : Cycle) : (s.setCycle x).dirt = s.dirt := rfl
@[simp] theorem setCycle_fill (s : State) (x : Cycle) : (s.setCycle x).fill = s.fill := rfl
@[simp] theorem setCycle_seq (s : State) (x : Cycle) : (s.setCycle x).seq = s.seq := rfl
@[simp] theorem setCycle_conds (s : State) (x : Cycle) : (s.setCycle x).conds = s.conds := rfl
@[simp] theorem setCycle_watches (s : State) (x : Cycle) : (s.setCycle x).watches = s.watches := rfl
@[simp] theorem setCycle_link (s : State) (x : Cycle) : (s.setCycle x).link = s.link := rfl
@[simp] theorem setCycle_dockCfg (s : State) (x : Cycle) : (s.setCycle x).dockCfg = s.dockCfg := rfl
@[simp] theorem setCycle_responder (s : State) (x : Cycle) : (s.setCycle x).responder = s.responder := rfl
@[simp] theorem setCycle_cycle (s : State) (x : Cycle) : (s.setCycle x).cycle = x := rfl
@[simp] theorem setCycle_port (s : State) (x : Cycle) : (s.setCycle x).port = s.port := rfl
@[simp] theorem setCycle_reports (s : State) (x : Cycle) : (s.setCycle x).reports = s.reports := rfl
@[simp] theorem setCycle_lost (s : State) (x : Cycle) : (s.setCycle x).lost = s.lost := rfl
@[simp] theorem setCycle_free (s : State) (x : Cycle) : (s.setCycle x).free = s.free := rfl
@[simp] theorem setCycle_pending (s : State) (x : Cycle) : (s.setCycle x).pending = s.pending := rfl

@[simp] theorem setPort_now (s : State) (x : Port) : (s.setPort x).now = s.now := rfl
@[simp] theorem setPort_role (s : State) (x : Port) : (s.setPort x).role = s.role := rfl
@[simp] theorem setPort_evacFit (s : State) (x : Port) : (s.setPort x).evacFit = s.evacFit := rfl
@[simp] theorem setPort_trim (s : State) (x : Port) : (s.setPort x).trim = s.trim := rfl
@[simp] theorem setPort_power (s : State) (x : Port) : (s.setPort x).power = s.power := rfl
@[simp] theorem setPort_pins (s : State) (x : Port) : (s.setPort x).pins = s.pins := rfl
@[simp] theorem setPort_drive (s : State) (x : Port) : (s.setPort x).drive = s.drive := rfl
@[simp] theorem setPort_motor (s : State) (x : Port) : (s.setPort x).motor = s.motor := rfl
@[simp] theorem setPort_driveCfg (s : State) (x : Port) : (s.setPort x).driveCfg = s.driveCfg := rfl
@[simp] theorem setPort_pack (s : State) (x : Port) : (s.setPort x).pack = s.pack := rfl
@[simp] theorem setPort_supply (s : State) (x : Port) : (s.setPort x).supply = s.supply := rfl
@[simp] theorem setPort_monitor (s : State) (x : Port) : (s.setPort x).monitor = s.monitor := rfl
@[simp] theorem setPort_counter (s : State) (x : Port) : (s.setPort x).counter = s.counter := rfl
@[simp] theorem setPort_session (s : State) (x : Port) : (s.setPort x).session = s.session := rfl
@[simp] theorem setPort_chargeCfg (s : State) (x : Port) : (s.setPort x).chargeCfg = s.chargeCfg := rfl
@[simp] theorem setPort_output (s : State) (x : Port) : (s.setPort x).output = s.output := rfl
@[simp] theorem setPort_sensingCfg (s : State) (x : Port) : (s.setPort x).sensingCfg = s.sensingCfg := rfl
@[simp] theorem setPort_dirt (s : State) (x : Port) : (s.setPort x).dirt = s.dirt := rfl
@[simp] theorem setPort_fill (s : State) (x : Port) : (s.setPort x).fill = s.fill := rfl
@[simp] theorem setPort_seq (s : State) (x : Port) : (s.setPort x).seq = s.seq := rfl
@[simp] theorem setPort_conds (s : State) (x : Port) : (s.setPort x).conds = s.conds := rfl
@[simp] theorem setPort_watches (s : State) (x : Port) : (s.setPort x).watches = s.watches := rfl
@[simp] theorem setPort_link (s : State) (x : Port) : (s.setPort x).link = s.link := rfl
@[simp] theorem setPort_dockCfg (s : State) (x : Port) : (s.setPort x).dockCfg = s.dockCfg := rfl
@[simp] theorem setPort_responder (s : State) (x : Port) : (s.setPort x).responder = s.responder := rfl
@[simp] theorem setPort_cycle (s : State) (x : Port) : (s.setPort x).cycle = s.cycle := rfl
@[simp] theorem setPort_port (s : State) (x : Port) : (s.setPort x).port = x := rfl
@[simp] theorem setPort_reports (s : State) (x : Port) : (s.setPort x).reports = s.reports := rfl
@[simp] theorem setPort_lost (s : State) (x : Port) : (s.setPort x).lost = s.lost := rfl
@[simp] theorem setPort_free (s : State) (x : Port) : (s.setPort x).free = s.free := rfl
@[simp] theorem setPort_pending (s : State) (x : Port) : (s.setPort x).pending = s.pending := rfl

@[simp] theorem setReports_now (s : State) (x : List Report) : (s.setReports x).now = s.now := rfl
@[simp] theorem setReports_role (s : State) (x : List Report) : (s.setReports x).role = s.role := rfl
@[simp] theorem setReports_evacFit (s : State) (x : List Report) : (s.setReports x).evacFit = s.evacFit := rfl
@[simp] theorem setReports_trim (s : State) (x : List Report) : (s.setReports x).trim = s.trim := rfl
@[simp] theorem setReports_power (s : State) (x : List Report) : (s.setReports x).power = s.power := rfl
@[simp] theorem setReports_pins (s : State) (x : List Report) : (s.setReports x).pins = s.pins := rfl
@[simp] theorem setReports_drive (s : State) (x : List Report) : (s.setReports x).drive = s.drive := rfl
@[simp] theorem setReports_motor (s : State) (x : List Report) : (s.setReports x).motor = s.motor := rfl
@[simp] theorem setReports_driveCfg (s : State) (x : List Report) : (s.setReports x).driveCfg = s.driveCfg := rfl
@[simp] theorem setReports_pack (s : State) (x : List Report) : (s.setReports x).pack = s.pack := rfl
@[simp] theorem setReports_supply (s : State) (x : List Report) : (s.setReports x).supply = s.supply := rfl
@[simp] theorem setReports_monitor (s : State) (x : List Report) : (s.setReports x).monitor = s.monitor := rfl
@[simp] theorem setReports_counter (s : State) (x : List Report) : (s.setReports x).counter = s.counter := rfl
@[simp] theorem setReports_session (s : State) (x : List Report) : (s.setReports x).session = s.session := rfl
@[simp] theorem setReports_chargeCfg (s : State) (x : List Report) : (s.setReports x).chargeCfg = s.chargeCfg := rfl
@[simp] theorem setReports_output (s : State) (x : List Report) : (s.setReports x).output = s.output := rfl
@[simp] theorem setReports_sensingCfg (s : State) (x : List Report) : (s.setReports x).sensingCfg = s.sensingCfg := rfl
@[simp] theorem setReports_dirt (s : State) (x : List Report) : (s.setReports x).dirt = s.dirt := rfl
@[simp] theorem setReports_fill (s : State) (x : List Report) : (s.setReports x).fill = s.fill := rfl
@[simp] theorem setReports_seq (s : State) (x : List Report) : (s.setReports x).seq = s.seq := rfl
@[simp] theorem setReports_conds (s : State) (x : List Report) : (s.setReports x).conds = s.conds := rfl
@[simp] theorem setReports_watches (s : State) (x : List Report) : (s.setReports x).watches = s.watches := rfl
@[simp] theorem setReports_link (s : State) (x : List Report) : (s.setReports x).link = s.link := rfl
@[simp] theorem setReports_dockCfg (s : State) (x : List Report) : (s.setReports x).dockCfg = s.dockCfg := rfl
@[simp] theorem setReports_responder (s : State) (x : List Report) : (s.setReports x).responder = s.responder := rfl
@[simp] theorem setReports_cycle (s : State) (x : List Report) : (s.setReports x).cycle = s.cycle := rfl
@[simp] theorem setReports_port (s : State) (x : List Report) : (s.setReports x).port = s.port := rfl
@[simp] theorem setReports_reports (s : State) (x : List Report) : (s.setReports x).reports = x := rfl
@[simp] theorem setReports_lost (s : State) (x : List Report) : (s.setReports x).lost = s.lost := rfl
@[simp] theorem setReports_free (s : State) (x : List Report) : (s.setReports x).free = s.free := rfl
@[simp] theorem setReports_pending (s : State) (x : List Report) : (s.setReports x).pending = s.pending := rfl

@[simp] theorem setLost_now (s : State) (x : Bool) : (s.setLost x).now = s.now := rfl
@[simp] theorem setLost_role (s : State) (x : Bool) : (s.setLost x).role = s.role := rfl
@[simp] theorem setLost_evacFit (s : State) (x : Bool) : (s.setLost x).evacFit = s.evacFit := rfl
@[simp] theorem setLost_trim (s : State) (x : Bool) : (s.setLost x).trim = s.trim := rfl
@[simp] theorem setLost_power (s : State) (x : Bool) : (s.setLost x).power = s.power := rfl
@[simp] theorem setLost_pins (s : State) (x : Bool) : (s.setLost x).pins = s.pins := rfl
@[simp] theorem setLost_drive (s : State) (x : Bool) : (s.setLost x).drive = s.drive := rfl
@[simp] theorem setLost_motor (s : State) (x : Bool) : (s.setLost x).motor = s.motor := rfl
@[simp] theorem setLost_driveCfg (s : State) (x : Bool) : (s.setLost x).driveCfg = s.driveCfg := rfl
@[simp] theorem setLost_pack (s : State) (x : Bool) : (s.setLost x).pack = s.pack := rfl
@[simp] theorem setLost_supply (s : State) (x : Bool) : (s.setLost x).supply = s.supply := rfl
@[simp] theorem setLost_monitor (s : State) (x : Bool) : (s.setLost x).monitor = s.monitor := rfl
@[simp] theorem setLost_counter (s : State) (x : Bool) : (s.setLost x).counter = s.counter := rfl
@[simp] theorem setLost_session (s : State) (x : Bool) : (s.setLost x).session = s.session := rfl
@[simp] theorem setLost_chargeCfg (s : State) (x : Bool) : (s.setLost x).chargeCfg = s.chargeCfg := rfl
@[simp] theorem setLost_output (s : State) (x : Bool) : (s.setLost x).output = s.output := rfl
@[simp] theorem setLost_sensingCfg (s : State) (x : Bool) : (s.setLost x).sensingCfg = s.sensingCfg := rfl
@[simp] theorem setLost_dirt (s : State) (x : Bool) : (s.setLost x).dirt = s.dirt := rfl
@[simp] theorem setLost_fill (s : State) (x : Bool) : (s.setLost x).fill = s.fill := rfl
@[simp] theorem setLost_seq (s : State) (x : Bool) : (s.setLost x).seq = s.seq := rfl
@[simp] theorem setLost_conds (s : State) (x : Bool) : (s.setLost x).conds = s.conds := rfl
@[simp] theorem setLost_watches (s : State) (x : Bool) : (s.setLost x).watches = s.watches := rfl
@[simp] theorem setLost_link (s : State) (x : Bool) : (s.setLost x).link = s.link := rfl
@[simp] theorem setLost_dockCfg (s : State) (x : Bool) : (s.setLost x).dockCfg = s.dockCfg := rfl
@[simp] theorem setLost_responder (s : State) (x : Bool) : (s.setLost x).responder = s.responder := rfl
@[simp] theorem setLost_cycle (s : State) (x : Bool) : (s.setLost x).cycle = s.cycle := rfl
@[simp] theorem setLost_port (s : State) (x : Bool) : (s.setLost x).port = s.port := rfl
@[simp] theorem setLost_reports (s : State) (x : Bool) : (s.setLost x).reports = s.reports := rfl
@[simp] theorem setLost_lost (s : State) (x : Bool) : (s.setLost x).lost = x := rfl
@[simp] theorem setLost_free (s : State) (x : Bool) : (s.setLost x).free = s.free := rfl
@[simp] theorem setLost_pending (s : State) (x : Bool) : (s.setLost x).pending = s.pending := rfl

@[simp] theorem setFree_now (s : State) (x : Nat) : (s.setFree x).now = s.now := rfl
@[simp] theorem setFree_role (s : State) (x : Nat) : (s.setFree x).role = s.role := rfl
@[simp] theorem setFree_evacFit (s : State) (x : Nat) : (s.setFree x).evacFit = s.evacFit := rfl
@[simp] theorem setFree_trim (s : State) (x : Nat) : (s.setFree x).trim = s.trim := rfl
@[simp] theorem setFree_power (s : State) (x : Nat) : (s.setFree x).power = s.power := rfl
@[simp] theorem setFree_pins (s : State) (x : Nat) : (s.setFree x).pins = s.pins := rfl
@[simp] theorem setFree_drive (s : State) (x : Nat) : (s.setFree x).drive = s.drive := rfl
@[simp] theorem setFree_motor (s : State) (x : Nat) : (s.setFree x).motor = s.motor := rfl
@[simp] theorem setFree_driveCfg (s : State) (x : Nat) : (s.setFree x).driveCfg = s.driveCfg := rfl
@[simp] theorem setFree_pack (s : State) (x : Nat) : (s.setFree x).pack = s.pack := rfl
@[simp] theorem setFree_supply (s : State) (x : Nat) : (s.setFree x).supply = s.supply := rfl
@[simp] theorem setFree_monitor (s : State) (x : Nat) : (s.setFree x).monitor = s.monitor := rfl
@[simp] theorem setFree_counter (s : State) (x : Nat) : (s.setFree x).counter = s.counter := rfl
@[simp] theorem setFree_session (s : State) (x : Nat) : (s.setFree x).session = s.session := rfl
@[simp] theorem setFree_chargeCfg (s : State) (x : Nat) : (s.setFree x).chargeCfg = s.chargeCfg := rfl
@[simp] theorem setFree_output (s : State) (x : Nat) : (s.setFree x).output = s.output := rfl
@[simp] theorem setFree_sensingCfg (s : State) (x : Nat) : (s.setFree x).sensingCfg = s.sensingCfg := rfl
@[simp] theorem setFree_dirt (s : State) (x : Nat) : (s.setFree x).dirt = s.dirt := rfl
@[simp] theorem setFree_fill (s : State) (x : Nat) : (s.setFree x).fill = s.fill := rfl
@[simp] theorem setFree_seq (s : State) (x : Nat) : (s.setFree x).seq = s.seq := rfl
@[simp] theorem setFree_conds (s : State) (x : Nat) : (s.setFree x).conds = s.conds := rfl
@[simp] theorem setFree_watches (s : State) (x : Nat) : (s.setFree x).watches = s.watches := rfl
@[simp] theorem setFree_link (s : State) (x : Nat) : (s.setFree x).link = s.link := rfl
@[simp] theorem setFree_dockCfg (s : State) (x : Nat) : (s.setFree x).dockCfg = s.dockCfg := rfl
@[simp] theorem setFree_responder (s : State) (x : Nat) : (s.setFree x).responder = s.responder := rfl
@[simp] theorem setFree_cycle (s : State) (x : Nat) : (s.setFree x).cycle = s.cycle := rfl
@[simp] theorem setFree_port (s : State) (x : Nat) : (s.setFree x).port = s.port := rfl
@[simp] theorem setFree_reports (s : State) (x : Nat) : (s.setFree x).reports = s.reports := rfl
@[simp] theorem setFree_lost (s : State) (x : Nat) : (s.setFree x).lost = s.lost := rfl
@[simp] theorem setFree_free (s : State) (x : Nat) : (s.setFree x).free = x := rfl
@[simp] theorem setFree_pending (s : State) (x : Nat) : (s.setFree x).pending = s.pending := rfl

@[simp] theorem setPending_now (s : State) (x : List Instr) : (s.setPending x).now = s.now := rfl
@[simp] theorem setPending_role (s : State) (x : List Instr) : (s.setPending x).role = s.role := rfl
@[simp] theorem setPending_evacFit (s : State) (x : List Instr) : (s.setPending x).evacFit = s.evacFit := rfl
@[simp] theorem setPending_trim (s : State) (x : List Instr) : (s.setPending x).trim = s.trim := rfl
@[simp] theorem setPending_power (s : State) (x : List Instr) : (s.setPending x).power = s.power := rfl
@[simp] theorem setPending_pins (s : State) (x : List Instr) : (s.setPending x).pins = s.pins := rfl
@[simp] theorem setPending_drive (s : State) (x : List Instr) : (s.setPending x).drive = s.drive := rfl
@[simp] theorem setPending_motor (s : State) (x : List Instr) : (s.setPending x).motor = s.motor := rfl
@[simp] theorem setPending_driveCfg (s : State) (x : List Instr) : (s.setPending x).driveCfg = s.driveCfg := rfl
@[simp] theorem setPending_pack (s : State) (x : List Instr) : (s.setPending x).pack = s.pack := rfl
@[simp] theorem setPending_supply (s : State) (x : List Instr) : (s.setPending x).supply = s.supply := rfl
@[simp] theorem setPending_monitor (s : State) (x : List Instr) : (s.setPending x).monitor = s.monitor := rfl
@[simp] theorem setPending_counter (s : State) (x : List Instr) : (s.setPending x).counter = s.counter := rfl
@[simp] theorem setPending_session (s : State) (x : List Instr) : (s.setPending x).session = s.session := rfl
@[simp] theorem setPending_chargeCfg (s : State) (x : List Instr) : (s.setPending x).chargeCfg = s.chargeCfg := rfl
@[simp] theorem setPending_output (s : State) (x : List Instr) : (s.setPending x).output = s.output := rfl
@[simp] theorem setPending_sensingCfg (s : State) (x : List Instr) : (s.setPending x).sensingCfg = s.sensingCfg := rfl
@[simp] theorem setPending_dirt (s : State) (x : List Instr) : (s.setPending x).dirt = s.dirt := rfl
@[simp] theorem setPending_fill (s : State) (x : List Instr) : (s.setPending x).fill = s.fill := rfl
@[simp] theorem setPending_seq (s : State) (x : List Instr) : (s.setPending x).seq = s.seq := rfl
@[simp] theorem setPending_conds (s : State) (x : List Instr) : (s.setPending x).conds = s.conds := rfl
@[simp] theorem setPending_watches (s : State) (x : List Instr) : (s.setPending x).watches = s.watches := rfl
@[simp] theorem setPending_link (s : State) (x : List Instr) : (s.setPending x).link = s.link := rfl
@[simp] theorem setPending_dockCfg (s : State) (x : List Instr) : (s.setPending x).dockCfg = s.dockCfg := rfl
@[simp] theorem setPending_responder (s : State) (x : List Instr) : (s.setPending x).responder = s.responder := rfl
@[simp] theorem setPending_cycle (s : State) (x : List Instr) : (s.setPending x).cycle = s.cycle := rfl
@[simp] theorem setPending_port (s : State) (x : List Instr) : (s.setPending x).port = s.port := rfl
@[simp] theorem setPending_reports (s : State) (x : List Instr) : (s.setPending x).reports = s.reports := rfl
@[simp] theorem setPending_lost (s : State) (x : List Instr) : (s.setPending x).lost = s.lost := rfl
@[simp] theorem setPending_free (s : State) (x : List Instr) : (s.setPending x).free = s.free := rfl
@[simp] theorem setPending_pending (s : State) (x : List Instr) : (s.setPending x).pending = x := rfl

end Sys2Proof.Laws
end

