-- ==== Sys2Proof/Laws/Frames.lean ====
section
/-! SUPPORT. How frames and queued reports compose: what a chain of operations changes, and the reports it queues. -/

namespace Sys2Proof.Laws

open Sys2Proof.Machine

/-- A field equals itself. -/
theorem same_refl (b : Block) (s : State) : b.same s s := by
  cases b <;> rfl

/-- A field unchanged twice is unchanged. -/
theorem same_trans {b : Block} {s t u : State} (h₁ : b.same s t) (h₂ : b.same t u) : b.same s u := by
  cases b <;> exact Eq.trans h₂ h₁

/-- Nothing changes. -/
theorem changesOnly_refl (l : List Block) (s : State) : ChangesOnly l s s := fun b _ => same_refl b s

/-- A frame may name more. -/
theorem changesOnly_mono {l m : List Block} {s t : State} (h : ChangesOnly l s t) (hs : ∀ b ∈ l, b ∈ m) :
    ChangesOnly m s t := fun b hb => h b (fun hl => hb (hs b hl))

/-- Two operations within one frame. -/
theorem changesOnly_trans {l : List Block} {s t u : State} (h₁ : ChangesOnly l s t) (h₂ : ChangesOnly l t u) :
    ChangesOnly l s u := fun b hb => same_trans (h₁ b hb) (h₂ b hb)

/-- Two operations, each with a frame of its own. -/
theorem changesOnly_append {l m : List Block} {s t u : State} (h₁ : ChangesOnly l s t) (h₂ : ChangesOnly m t u) :
    ChangesOnly (l ++ m) s u :=
  changesOnly_trans (changesOnly_mono h₁ (fun _ h => List.mem_append_left _ h))
    (changesOnly_mono h₂ (fun _ h => List.mem_append_right _ h))

/-- A choice between two operations within one frame. -/
theorem changesOnly_ite {l : List Block} {s t u : State} {p : Prop} {_ : Decidable p} (h₁ : p → ChangesOnly l s t)
    (h₂ : ¬p → ChangesOnly l s u) : ChangesOnly l s (if p then t else u) := by
  split
  · exact h₁ ‹_›
  · exact h₂ ‹_›

/-- Two reports, or lists of them, queued one after the other. -/
theorem queued_append {s t u : State} {l m : List Report} (h₁ : Queued s t l) (h₂ : Queued t u m) :
    Queued s u (l ++ m) := by
  obtain ⟨r₁, f₁⟩ := h₁
  obtain ⟨r₂, f₂⟩ := h₂
  refine ⟨?_, ?_⟩
  · rw [r₂, r₁, ← List.append_assoc]
    by_cases h : (s.reports ++ l).length ≤ 16
    · rw [List.take_of_length_le h]
    · have h' : 16 ≤ (s.reports ++ l).length := by omega
      rw [List.take_append_of_le_length h', List.take_append_of_le_length (by rw [List.length_take]; omega),
        List.take_take, Nat.min_self]
  · rw [f₂, f₁, r₁]
    simp only [List.length_take, List.length_append]
    cases s.lost
    · simp only [Bool.false_or]
      rw [Bool.eq_iff_iff]
      simp only [Bool.or_eq_true, decide_eq_true_eq]
      omega
    · simp

/-- Nothing queued. -/
theorem queued_nil (s : State) (hs : ReportsFit s) : Queued s s [] := by
  unfold ReportsFit at hs
  refine ⟨?_, ?_⟩
  · simp [List.take_of_length_le hs]
  · rw [List.length_nil, Nat.add_zero, decide_eq_false (Nat.not_lt.mpr hs), Bool.or_false]

/-- The queue stays within its bound. -/
theorem queued_fits {s t : State} {l : List Report} (h : Queued s t l) : ReportsFit t := by
  unfold ReportsFit
  rw [h.1, List.length_take]
  exact Nat.min_le_left 16 _

end Sys2Proof.Laws
end

