-- ==== Sys2Proof/Laws/Ops.lean ====
section
/-! SUPPORT. What each shared operation can do, said once: its effect, and the fields it can reach. -/

namespace Sys2Proof.Laws

open Sys2Proof.Machine

/-! ## The frame of an update -/

/-- An operation within one frame and one within another stay within a frame that holds both. -/
theorem changesOnly_seq {l m r : List Block} {s t u : State} (h₁ : ChangesOnly l s t) (h₂ : ChangesOnly m t u)
    (hl : ∀ b ∈ l, b ∈ r := by decide) (hm : ∀ b ∈ m, b ∈ r := by decide) : ChangesOnly r s u :=
  changesOnly_trans (changesOnly_mono h₁ hl) (changesOnly_mono h₂ hm)

theorem setNow_frame (s : State) (x : Nat) : ChangesOnly [.now] s (s.setNow x) := by
  intro b h; cases b <;> first | rfl | exact absurd (by decide) h
theorem setRole_frame (s : State) (x : Role) : ChangesOnly [.role] s (s.setRole x) := by
  intro b h; cases b <;> first | rfl | exact absurd (by decide) h
theorem setEvacFit_frame (s : State) (x : Bool) : ChangesOnly [.evacFit] s (s.setEvacFit x) := by
  intro b h; cases b <;> first | rfl | exact absurd (by decide) h
theorem setTrim_frame (s : State) (x : Trim) : ChangesOnly [.trim] s (s.setTrim x) := by
  intro b h; cases b <;> first | rfl | exact absurd (by decide) h
theorem setPower_frame (s : State) (x : Power) : ChangesOnly [.power] s (s.setPower x) := by
  intro b h; cases b <;> first | rfl | exact absurd (by decide) h
theorem setPins_frame (s : State) (x : Pins) : ChangesOnly [.pins] s (s.setPins x) := by
  intro b h; cases b <;> first | rfl | exact absurd (by decide) h
theorem setDrive_frame (s : State) (x : Drive) : ChangesOnly [.drive] s (s.setDrive x) := by
  intro b h; cases b <;> first | rfl | exact absurd (by decide) h
theorem setMotor_frame (s : State) (x : Motor) : ChangesOnly [.motor] s (s.setMotor x) := by
  intro b h; cases b <;> first | rfl | exact absurd (by decide) h
theorem setDriveCfg_frame (s : State) (x : DriveCfg) : ChangesOnly [.driveCfg] s (s.setDriveCfg x) := by
  intro b h; cases b <;> first | rfl | exact absurd (by decide) h
theorem setPack_frame (s : State) (x : PackRec) : ChangesOnly [.pack] s (s.setPack x) := by
  intro b h; cases b <;> first | rfl | exact absurd (by decide) h
theorem setSupply_frame (s : State) (x : SupplyRec) : ChangesOnly [.supply] s (s.setSupply x) := by
  intro b h; cases b <;> first | rfl | exact absurd (by decide) h
theorem setMonitor_frame (s : State) (x : Monitor) : ChangesOnly [.monitor] s (s.setMonitor x) := by
  intro b h; cases b <;> first | rfl | exact absurd (by decide) h
theorem setCounter_frame (s : State) (x : Counter) : ChangesOnly [.counter] s (s.setCounter x) := by
  intro b h; cases b <;> first | rfl | exact absurd (by decide) h
theorem setSession_frame (s : State) (x : Session) : ChangesOnly [.session] s (s.setSession x) := by
  intro b h; cases b <;> first | rfl | exact absurd (by decide) h
theorem setChargeCfg_frame (s : State) (x : ChargeCfg) : ChangesOnly [.chargeCfg] s (s.setChargeCfg x) := by
  intro b h; cases b <;> first | rfl | exact absurd (by decide) h
theorem setOutput_frame (s : State) (x : Output) : ChangesOnly [.output] s (s.setOutput x) := by
  intro b h; cases b <;> first | rfl | exact absurd (by decide) h
theorem setSensingCfg_frame (s : State) (x : SensingCfg) : ChangesOnly [.sensingCfg] s (s.setSensingCfg x) := by
  intro b h; cases b <;> first | rfl | exact absurd (by decide) h
theorem setDirt_frame (s : State) (x : Dirt) : ChangesOnly [.dirt] s (s.setDirt x) := by
  intro b h; cases b <;> first | rfl | exact absurd (by decide) h
theorem setFill_frame (s : State) (x : Fill) : ChangesOnly [.fill] s (s.setFill x) := by
  intro b h; cases b <;> first | rfl | exact absurd (by decide) h
theorem setSeq_frame (s : State) (x : Sequencer) : ChangesOnly [.seq] s (s.setSeq x) := by
  intro b h; cases b <;> first | rfl | exact absurd (by decide) h
theorem setConds_frame (s : State) (x : List CondRec) : ChangesOnly [.conds] s (s.setConds x) := by
  intro b h; cases b <;> first | rfl | exact absurd (by decide) h
theorem setWatches_frame (s : State) (x : Vector (Option Watch) 8) : ChangesOnly [.watches] s (s.setWatches x) := by
  intro b h; cases b <;> first | rfl | exact absurd (by decide) h
theorem setLink_frame (s : State) (x : Link) : ChangesOnly [.link] s (s.setLink x) := by
  intro b h; cases b <;> first | rfl | exact absurd (by decide) h
theorem setDockCfg_frame (s : State) (x : DockCfg) : ChangesOnly [.dockCfg] s (s.setDockCfg x) := by
  intro b h; cases b <;> first | rfl | exact absurd (by decide) h
theorem setResponder_frame (s : State) (x : Responder) : ChangesOnly [.responder] s (s.setResponder x) := by
  intro b h; cases b <;> first | rfl | exact absurd (by decide) h
theorem setCycle_frame (s : State) (x : Cycle) : ChangesOnly [.cycle] s (s.setCycle x) := by
  intro b h; cases b <;> first | rfl | exact absurd (by decide) h
theorem setPort_frame (s : State) (x : Port) : ChangesOnly [.port] s (s.setPort x) := by
  intro b h; cases b <;> first | rfl | exact absurd (by decide) h
theorem setReports_frame (s : State) (x : List Report) : ChangesOnly [.reports] s (s.setReports x) := by
  intro b h; cases b <;> first | rfl | exact absurd (by decide) h
theorem setLost_frame (s : State) (x : Bool) : ChangesOnly [.lost] s (s.setLost x) := by
  intro b h; cases b <;> first | rfl | exact absurd (by decide) h
theorem setFree_frame (s : State) (x : Nat) : ChangesOnly [.free] s (s.setFree x) := by
  intro b h; cases b <;> first | rfl | exact absurd (by decide) h
theorem setPending_frame (s : State) (x : List Instr) : ChangesOnly [.pending] s (s.setPending x) := by
  intro b h; cases b <;> first | rfl | exact absurd (by decide) h

/-! ## Time -/

/-- Time moves and nothing else. -/
theorem advanceTo_frame (s : State) (t : Nat) : ChangesOnly [.now] s (s.advanceTo t) := setNow_frame s _

/-- Time does not run backwards. -/
theorem advanceTo_now (s : State) (t : Nat) : (s.advanceTo t).now = max s.now t := rfl

/-- The expiry of a stopped timer does nothing. -/
theorem onExpiry_none (f : Nat → State → State) (s : State) : onExpiry none f s = s := rfl

/-- The expiry of a running timer is its event at its deadline. -/
theorem onExpiry_some (t : Nat) (f : Nat → State → State) (s : State) :
    onExpiry (some t) f s = f t (s.advanceTo t) := rfl

/-- An expiry within a frame. -/
theorem onExpiry_frame {l : List Block} (d : Option Nat) (f : Nat → State → State) (s : State)
    (h : ∀ t, d = some t → ChangesOnly l (s.advanceTo t) (f t (s.advanceTo t))) :
    ChangesOnly (.now :: l) s (onExpiry d f s) := by
  cases d with
  | none => exact changesOnly_refl _ s
  | some t =>
    exact changesOnly_trans
      (changesOnly_mono (advanceTo_frame s t) (fun b hb => by simp_all))
      (changesOnly_mono (h t rfl) (fun b hb => List.mem_cons_of_mem _ hb))

/-! ## Reports (R182) -/

/-- A report reaches the queue and the lost flag only. -/
theorem report_frame (k : ReportKind) (n : Nat) (d : List Byte) (s : State) :
    ChangesOnly [.reports, .lost] s (report k n d s) := by
  unfold report
  split
  · exact changesOnly_mono (setReports_frame s _) (by decide)
  · exact changesOnly_mono (setLost_frame s _) (by decide)

/-- A report is queued, or lost with the flag set (R182). -/
theorem report_queued (k : ReportKind) (n : Nat) (d : List Byte) (s : State) (h : ReportsFit s) :
    Queued s (report k n d s) [{ kind := k, sub := n, time := s.partTime, data := d }] := by
  unfold ReportsFit at h
  unfold report Queued
  split
  · rename_i hl
    constructor
    · rw [List.take_of_length_le (by simp; omega)]
      rfl
    · have : ¬16 < s.reports.length + 1 := by omega
      simp [this]
  · rename_i hl
    have hl : s.reports.length = 16 := by omega
    constructor
    · rw [List.take_append_of_le_length (by omega), List.take_of_length_le (by omega)]
      rfl
    · simp [hl]

/-- The queue stays within its bound. -/
theorem report_fits (k : ReportKind) (n : Nat) (d : List Byte) (s : State) (h : ReportsFit s) :
    ReportsFit (report k n d s) := queued_fits (report_queued k n d s h)

/-- A field other than the queue and the flag is not touched by a report. -/
theorem report_same (b : Block) (k : ReportKind) (n : Nat) (d : List Byte) (s : State)
    (h : b ∉ [Block.reports, Block.lost]) : b.same s (report k n d s) := report_frame k n d s b h

/-- With no standby pending there is nothing to cancel. -/
theorem cancelStandby_none (c : WakeCause) (s : State) (h : s.power.standbyPending = false) :
    cancelStandby c s = s := by
  simp [cancelStandby, h]

/-- A pending standby is cancelled, with its WAKE report (R191). -/
theorem cancelStandby_some (c : WakeCause) (s : State) (h : s.power.standbyPending = true) :
    cancelStandby c s = report .wake c.code absent4 (s.setPower { s.power with standbyPending := false }) := by
  simp [cancelStandby, h]

/-- What a cancellation can reach. -/
theorem cancelStandby_frame (c : WakeCause) (s : State) :
    ChangesOnly [.power, .reports, .lost] s (cancelStandby c s) := by
  unfold cancelStandby
  split
  · exact changesOnly_seq (setPower_frame s _) (report_frame _ _ _ _)
  · exact changesOnly_refl _ s

/-! ## Watches (R140) -/

theorem watchReport_frame (before : Vector (Option Watch) 8) (q : Quantity) (v : Int) (s : State) (i : Fin 8) :
    ChangesOnly [.reports, .lost] s (watchReport before q v s i) := by
  unfold watchReport
  split
  · exact report_frame _ _ _ s
  · exact changesOnly_refl _ s

/-- A fold of operations within a frame stays within it. -/
theorem foldl_frame {α : Type} {l : List Block} (f : State → α → State) (h : ∀ s a, ChangesOnly l s (f s a)) (as : List α)
    (s : State) : ChangesOnly l s (as.foldl f s) := by
  induction as generalizing s with
  | nil => exact changesOnly_refl l s
  | cons a as ih => exact changesOnly_trans (h s a) (ih (f s a))

/-- A publication reaches the watches and their reports only. -/
theorem publish_frame (q : Quantity) (v : Int) (s : State) :
    ChangesOnly [.watches, .reports, .lost] s (publish q v s) :=
  changesOnly_seq (setWatches_frame s _) (foldl_frame _ (watchReport_frame s.watches q v) _ _)

/-- The reports of a list of slots. -/
theorem watchReports_queued (before : Vector (Option Watch) 8) (q : Quantity) (v : Int) (is : List (Fin 8)) (s : State)
    (h : ReportsFit s) :
    Queued s (is.foldl (watchReport before q v) s)
      (is.filterMap (fun i =>
        if watchFires before[i] q v then
          some { kind := .watchFired, sub := i.val, time := s.partTime, data := byteOf q.code :: le4 v }
        else none)) := by
  induction is generalizing s with
  | nil => exact queued_nil s h
  | cons i is ih =>
    rw [List.foldl_cons]
    by_cases hw : watchFires before[i] q v = true
    · have hr : watchReport before q v s i = report .watchFired i.val (byteOf q.code :: le4 v) s := by
        unfold watchReport
        rw [if_pos hw]
      rw [hr]
      have hq := report_queued .watchFired i.val (byteOf q.code :: le4 v) s h
      have hi := ih _ (queued_fits hq)
      have hn : (report .watchFired i.val (byteOf q.code :: le4 v) s).partTime = s.partTime := by
        unfold State.partTime
        rw [report_same .now _ _ _ s (by decide)]
      rw [hn] at hi
      rw [List.filterMap_cons_some (by exact if_pos hw)]
      exact queued_append hq hi
    · have hr : watchReport before q v s i = s := by
        unfold watchReport
        rw [if_neg hw]
      rw [hr]
      rw [List.filterMap_cons_none (by exact if_neg hw)]
      exact ih s h

/-- A publication: the test of every slot, and the reports of those that fire (R140). -/
theorem publish_published (q : Quantity) (v : Int) (s : State) (h : ReportsFit s) : Published q v s (publish q v s) := by
  have hw : (publish q v s).watches = perEight (fun i => watchAfter s.watches[i] q v) :=
    foldl_frame _ (watchReport_frame s.watches q v) _ _ .watches (by decide)
  have hn : (publish q v s).partTime = s.partTime := by
    unfold State.partTime
    rw [publish_frame q v s .now (by decide)]
  refine ⟨?_, ?_⟩
  · intro i
    rw [hw]
    revert i
    simp only [perEight]
    intro i
    match i with
    | 0 => rfl
    | 1 => rfl
    | 2 => rfl
    | 3 => rfl
    | 4 => rfl
    | 5 => rfl
    | 6 => rfl
    | 7 => rfl
  · unfold firedReports
    rw [hn]
    exact watchReports_queued s.watches q v _ (s.setWatches _) h

/-! ## The converter's queue (R121 to R123) -/

/-- A channel's record replaced is read back. -/
theorem chan_setChan (c : Chan) (r : ChanRec) (s : State) : (setChan c r s).chan c = r := by
  simp [setChan, State.chan]

theorem setChan_frame (c : Chan) (r : ChanRec) (s : State) : ChangesOnly [.seq] s (setChan c r s) := setSeq_frame s _

/-- An empty queue, and no other, has no most urgent entry. -/
@[simp] theorem mostUrgent_eq_none {q : List Entry} : mostUrgent q = none ↔ q = [] := by
  cases q with
  | nil => simp [mostUrgent]
  | cons e rest => simp only [mostUrgent]; split <;> (try split) <;> simp

/-- The arbiter's choice (R123): it waits, every waiting entry is of its class or a less urgent one, and those created before
it are less urgent. -/
theorem mostUrgent_cases {q : List Entry} {e : Entry} (h : mostUrgent q = some e) :
    ∃ pre post, q = pre ++ e :: post ∧ (∀ x ∈ pre, e.cls < x.cls) ∧ ∀ x ∈ q, e.cls ≤ x.cls := by
  induction q generalizing e with
  | nil => simp [mostUrgent] at h
  | cons a rest ih =>
    simp only [mostUrgent] at h
    cases hr : mostUrgent rest with
    | none =>
      simp only [hr, Option.some.injEq] at h
      subst h
      simp only [mostUrgent_eq_none] at hr
      exact ⟨[], rest, rfl, by simp, by simp [hr]⟩
    | some x =>
      obtain ⟨pre, post, hq, hp, hall⟩ := ih hr
      simp only [hr] at h
      split at h <;> rename_i hc <;> simp only [Option.some.injEq] at h <;> subst h
      · refine ⟨[], rest, rfl, by simp, ?_⟩
        simp only [List.mem_cons]
        rintro y (rfl | hy)
        · exact Nat.le_refl _
        · exact Nat.le_trans hc (hall y hy)
      · refine ⟨a :: pre, post, by rw [hq]; rfl, ?_, ?_⟩
        · simp only [List.mem_cons]
          rintro y (rfl | hy)
          · omega
          · exact hp y hy
        · simp only [List.mem_cons]
          rintro y (rfl | hy)
          · omega
          · exact hall y hy

theorem arbiter_frame (s : State) : ChangesOnly [.seq] s (arbiter s) := by
  unfold arbiter
  split
  · split
    · exact setSeq_frame s _
    · exact changesOnly_refl _ s
  · exact changesOnly_refl _ s

theorem displace_frame (e : Entry) (s : State) : ChangesOnly [.seq, .reports, .lost] s (displace e s) :=
  changesOnly_seq (setSeq_frame s _) (report_frame _ _ _ _)

/-- A placed request reaches the sequencer and, where it displaces an entry, a report. -/
theorem place_frame (c : Chan) (r : Requester) (n : Nat) (s t : State) (h : place c r n s = some t) :
    ChangesOnly [.seq, .reports, .lost] s t := by
  unfold place at h
  split at h
  · cases h
    exact changesOnly_seq (setSeq_frame s _) (arbiter_frame _)
  · split at h
    · cases h
      exact changesOnly_seq (setSeq_frame s _) (arbiter_frame _)
    · split at h
      · cases h
      · split at h
        · cases h
          exact changesOnly_seq (displace_frame _ s) (changesOnly_seq (r := [.seq]) (setSeq_frame _ _) (arbiter_frame _))
        · cases h
          exact changesOnly_refl _ s

/-- A request is refused only to the port, with a full queue and no entry of the channel (R122). -/
theorem place_none (c : Chan) (r : Requester) (n : Nat) (s : State) (h : place c r n s = none) :
    r = .port ∧ waitingEntry s c = none ∧ 12 ≤ s.seq.queue.length := by
  unfold place at h
  split at h
  · cases h
  · rename_i hw
    split at h
    · cases h
    · rename_i hl
      split at h
      · rename_i hr
        exact ⟨by simpa using hr, hw, by omega⟩
      · split at h <;> cases h

theorem post_frame (r : Requester) (s : State) (c : Chan) : ChangesOnly [.seq, .reports, .lost] s (post r s c) := by
  unfold post
  cases h : place c r (s.chan c).averaging s with
  | none => exact changesOnly_refl _ s
  | some t => exact place_frame c r _ s t h

theorem postAll_frame (r : Requester) (cs : List Chan) (s : State) :
    ChangesOnly [.seq, .reports, .lost] s (postAll r cs s) := foldl_frame _ (post_frame r) cs s

/-- With no entry for the port alone, a placed request displaces none, and no report is queued. -/
theorem place_quiet (c : Chan) (r : Requester) (n : Nat) (s t : State) (hn : NoPortAlone s) (h : place c r n s = some t) :
    ChangesOnly [.seq] s t := by
  unfold place at h
  split at h
  · cases h
    exact changesOnly_seq (setSeq_frame s _) (arbiter_frame _)
  · split at h
    · cases h
      exact changesOnly_seq (setSeq_frame s _) (arbiter_frame _)
    · split at h
      · cases h
      · split at h
        · rename_i e he
          have hm := List.mem_of_find?_eq_some he
          have hp := List.find?_some he
          exact absurd hp (by simp [hn e (by simpa using hm)])
        · cases h
          exact changesOnly_refl _ s

/-! ## The demand and the dock's budget -/

theorem setCeiling_frame (t : Terms) (s : State) : ChangesOnly [.drive] s (setCeiling t s) := setDrive_frame s _

theorem refreshStatus_frame (s : State) : ChangesOnly [.output] s (refreshStatus s) := by
  unfold refreshStatus
  split
  · exact changesOnly_refl _ s
  · exact setOutput_frame s _

theorem budget_frame (s : State) : ChangesOnly [.output] s (budget s) := by
  unfold budget
  split
  · exact changesOnly_refl _ s
  · exact changesOnly_seq (setOutput_frame s _) (refreshStatus_frame _)

theorem withdraw_frame (s : State) : ChangesOnly [.output] s (withdraw s) := by
  unfold withdraw
  split
  · exact changesOnly_refl _ s
  · exact changesOnly_seq (setOutput_frame s _) (refreshStatus_frame _)

/-- The output record belongs to the dock role (R162). -/
theorem refreshStatus_handle (s : State) (h : s.role = .handle) : refreshStatus s = s := by
  simp [refreshStatus, h]

theorem budget_handle (s : State) (h : s.role = .handle) : budget s = s := by
  simp [budget, h]

theorem withdraw_handle (s : State) (h : s.role = .handle) : withdraw s = s := by
  simp [withdraw, h]

/-- After a budget the fan ceiling and the allowance make the bus power limit (R165). -/
theorem budget_balances (s : State) (h : s.role = .dock) :
    fanCeiling (budget s) + (budget s).output.pAllow = (budget s).output.busLimit := by
  have : fanCeiling (budget s) = fanCeiling s := by
    unfold fanCeiling
    rw [budget_frame s .drive (by decide)]
  rw [this]
  simp only [budget, refreshStatus, h, setOutput_output, setOutput_role]
  omega

/-- After a withdrawal the stage is off (R163). -/
theorem withdraw_dock (s : State) (h : s.role = .dock) :
    (withdraw s).output.permission = false ∧ (withdraw s).output.duty = 0 ∧ (withdraw s).output.period = none ∧
      (withdraw s).output.stale = 0 := by
  simp [withdraw, refreshStatus, h]

end Sys2Proof.Laws
end

