-- ==== Sys2Proof/Laws/Reactions.lean ====
section
/-! SUPPORT. What the operations that reach several blocks can do: their frames, and in handle role what a stop leaves. -/

namespace Sys2Proof.Laws

open Sys2Proof.Machine

/-! ## Sweeps and scans -/

theorem wakeFastClock_frame (s : State) : ChangesOnly [.power] s (wakeFastClock s) := by
  unfold wakeFastClock
  split
  · exact setPower_frame s _
  · exact changesOnly_refl _ s

/-- The fields a sweep's start can reach. -/
def sweepBlocks : List Block := [.session, .monitor, .power, .seq, .reports, .lost]

theorem markSweep_frame (s : State) : ChangesOnly [.session, .seq, .monitor] s (markSweep s) :=
  changesOnly_seq (setSession_frame s _) (changesOnly_seq (r := [.seq, .monitor]) (setSeq_frame _ _) (setMonitor_frame _ _))

theorem startSweep_frame (s : State) : ChangesOnly sweepBlocks s (startSweep s) :=
  changesOnly_seq (l := [.session, .seq, .monitor]) (m := [.power, .seq, .reports, .lost]) (markSweep_frame s)
    (changesOnly_seq (wakeFastClock_frame _) (postAll_frame _ _ _))

/-- A sweep's start empties the balance set (R52). -/
theorem startSweep_balance (s : State) : (startSweep s).session.balance = [] := by
  have h := postAll_frame .pack (sweepChans (markSweep s).role) (wakeFastClock (markSweep s)) .session (by decide)
  have h' := wakeFastClock_frame (markSweep s) .session (by decide)
  unfold startSweep
  exact (congrArg Session.balance (h.trans h')).trans rfl

theorem sweepExpiry_frame (t : Nat) (s : State) : ChangesOnly sweepBlocks s (sweepExpiry t s) := by
  refine changesOnly_seq (l := [.monitor]) (m := sweepBlocks)
    (t := s.setMonitor { s.monitor with lastExpiry := t, next := some (t + ms s.monitor.periodMs) })
    (setMonitor_frame s _) ?_
  exact changesOnly_ite (fun _ => changesOnly_refl _ _) (fun _ => startSweep_frame _)

theorem refreshSweep_frame (s : State) : ChangesOnly sweepBlocks s (refreshSweep s) := by
  unfold refreshSweep
  refine changesOnly_ite (fun _ => changesOnly_refl _ s) (fun _ => ?_)
  refine changesOnly_seq (l := [.monitor]) (m := sweepBlocks)
    (t := s.setMonitor
      { s.monitor with
        periodMs := sweepPeriodMs s
        next := some (s.monitor.lastExpiry + ms (sweepPeriodMs s)) })
    (setMonitor_frame s _) ?_
  exact changesOnly_ite (fun _ => sweepExpiry_frame _ _) (fun _ => changesOnly_refl _ _)

/-- With the period already the state's own, the sweep timer stands (R51). -/
theorem refreshSweep_same (s : State) (h : sweepPeriodMs s = s.monitor.periodMs) : refreshSweep s = s := by
  simp [refreshSweep, h]

theorem startScan_frame (s : State) : ChangesOnly [.fill] s (startScan s) := setFill_frame s _

theorem scanExpiry_frame (t : Nat) (s : State) : ChangesOnly [.fill] s (scanExpiry t s) := by
  refine changesOnly_trans
    (t := s.setFill { s.fill with lastExpiry := t, next := some (t + ms s.fill.periodMs) }) (setFill_frame s _) ?_
  exact changesOnly_ite (fun _ => changesOnly_refl _ _) (fun _ => startScan_frame _)

theorem refreshScan_frame (s : State) : ChangesOnly [.fill] s (refreshScan s) := by
  unfold refreshScan
  refine changesOnly_ite (fun _ => changesOnly_refl _ s) (fun _ => ?_)
  cases s.fill.next with
  | none => exact setFill_frame s _
  | some _ =>
    refine changesOnly_trans
      (t := s.setFill
        { s.fill with
          periodMs := scanPeriodMs s
          next := some (s.fill.lastExpiry + ms (scanPeriodMs s)) })
      (setFill_frame s _) ?_
    exact changesOnly_ite (fun _ => scanExpiry_frame _ _) (fun _ => changesOnly_refl _ _)

/-- With the period already the state's own, the scan timer stands (R103). -/
theorem refreshScan_same (s : State) (h : scanPeriodMs s = s.fill.periodMs) : refreshScan s = s := by
  simp [refreshScan, h]

/-! ## The evacuation cycle's record and the stop of the drive -/

theorem cycleAborted_frame (r : AbortReason) (s : State) :
    ChangesOnly [.cycle, .fill, .reports, .lost] s (cycleAborted r s) :=
  changesOnly_seq (l := [.cycle]) (m := [.fill, .reports, .lost]) (setCycle_frame s _)
    (changesOnly_seq (report_frame _ _ _ _) (refreshScan_frame _))

theorem dirtReset_frame (s : State) : ChangesOnly [.dirt] s (dirtReset s) := setDirt_frame s _

theorem stopReports_frame (r : StopReason) (s : State) : ChangesOnly [.reports, .lost] s (stopReports r s) :=
  changesOnly_trans (report_frame _ _ _ _) (report_frame _ _ _ _)

/-- The fields a stop can reach. -/
def stopBlocks : List Block := [.drive, .motor, .dirt, .reports, .lost, .output, .cycle, .fill]

theorem makeStop_frame (r : StopReason) (s : State) : ChangesOnly stopBlocks s (makeStop r s) := by
  unfold makeStop
  refine changesOnly_seq (l := [.drive, .motor, .dirt, .reports, .lost, .output])
    (m := [.cycle, .fill, .reports, .lost]) ?_ (changesOnly_ite (fun _ => cycleAborted_frame _ _)
      (fun _ => changesOnly_refl _ _))
  exact changesOnly_seq (l := [.drive, .motor, .reports, .lost]) (m := [.dirt, .output])
    (changesOnly_seq (l := [.drive, .motor]) (changesOnly_seq (setMotor_frame s _) (setDrive_frame _ _))
      (stopReports_frame r _))
    (changesOnly_seq (dirtReset_frame _) (budget_frame _))

theorem stopEvent_frame (r : StopReason) (s : State) : ChangesOnly stopBlocks s (stopEvent r s) := by
  unfold stopEvent
  split
  · exact makeStop_frame r s
  · exact changesOnly_mono (setDrive_frame s _) (by decide)

/-- In handle role a stop is the record, the outputs, the reset of the impact counter and the reports alone. -/
theorem makeStop_handle (r : StopReason) (s : State) (h : s.role = .handle) :
    makeStop r s = dirtReset (stopReports r ((s.setMotor (stopMotor s)).setDrive (stopDrive r s))) := by
  have hr : (dirtReset (stopReports r ((s.setMotor (stopMotor s)).setDrive (stopDrive r s)))).role = .handle := by
    rw [dirtReset_frame _ .role (by decide), stopReports_frame r _ .role (by decide)]
    exact h
  unfold makeStop
  simp only [budget_handle _ hr]
  simp [hr]

/-- Outside the running states a stop event leaves the drive where it stands (R22). -/
theorem stopEvent_notRunning (r : StopReason) (s : State) (h : s.drive.state.running = false) :
    stopEvent r s = s.setDrive (latchOff s.driveCfg.mode (permissionAfter r s.drive)) := by
  simp [stopEvent, h]

/-- In a running state a stop event makes a stop (R22). -/
theorem stopEvent_running (r : StopReason) (s : State) (h : s.drive.state.running = true) :
    stopEvent r s = makeStop r s := by
  simp [stopEvent, h]

theorem cycleAbort_frame (stop : StopReason) (r : AbortReason) (s : State) :
    ChangesOnly stopBlocks s (cycleAbort stop r s) := by
  unfold cycleAbort
  split
  · exact changesOnly_seq (stopEvent_frame stop s) (cycleAborted_frame r _)
  · exact changesOnly_refl _ s

/-! ## Conditions -/

theorem endCond_frame (k : CondKind) (s : State) : ChangesOnly [.conds, .reports, .lost, .output] s (endCond k s) := by
  unfold endCond
  split
  · exact changesOnly_refl _ s
  · split
    · exact changesOnly_seq (l := [.conds, .reports, .lost])
        (changesOnly_seq (setConds_frame s _) (report_frame _ _ _ _)) (refreshStatus_frame _)
    · exact changesOnly_refl _ s

/-- A kind whose record is not ACTIVE has nothing to end (R132). -/
theorem endCond_inactive (k : CondKind) (s : State) (h : condActive s k = false) : endCond k s = s := by
  unfold condActive at h
  unfold endCond
  split
  · rfl
  · rename_i r hr
    rw [hr] at h
    simp [h]

/-- An ACTIVE record of the kind is absorbed by its raise (R131). -/
theorem raise_absorbed (k : CondKind) (d : Option Detail) (s : State) (h : condActive s k = true) : raise k d s = s := by
  simp [raise, h]

/-- The fields a change of phase can reach (R74, R61, R65, R82). -/
def phaseReach : List Block := [.session, .reports, .lost, .seq, .monitor, .power, .conds, .output, .counter]

theorem setPhase_frame (p : Phase) (r : Option PhaseReason) (s : State) : ChangesOnly phaseReach s (setPhase p r s) :=
  changesOnly_seq (l := phaseReach)
    (changesOnly_seq (l := phaseReach)
      (changesOnly_seq (l := [.session, .reports, .lost, .seq])
        (changesOnly_seq (l := [.session, .reports, .lost])
          (changesOnly_seq (setSession_frame s _) (report_frame _ _ _ _))
          (changesOnly_ite (fun _ => post_frame _ _ _) (fun _ => changesOnly_refl _ _)))
        (changesOnly_ite (fun _ => endCond_frame _ _) (fun _ => changesOnly_refl _ _)))
      (changesOnly_ite (fun _ => setCounter_frame _ _) (fun _ => changesOnly_refl _ _)))
    (refreshSweep_frame _)

theorem suspend_frame (expired : Bool) (s : State) : ChangesOnly phaseReach s (suspend expired s) := by
  unfold suspend
  split
  · exact setPhase_frame _ _ s
  · exact changesOnly_refl _ s

/-- A session outside QUALIFY and the charging phases is not suspended (R78). -/
theorem suspend_same (expired : Bool) (s : State) (h : suspendable s = false) : suspend expired s = s := by
  simp [suspend, h]

/-- The fields the reactions to a raise can reach (R134, R135). -/
def reactBlocks : List Block := stopBlocks ++ phaseReach

theorem driveReaction_frame (k : CondKind) (s : State) : ChangesOnly stopBlocks s (driveReaction k s) :=
  changesOnly_trans
    (changesOnly_ite (fun _ => stopEvent_frame _ s) (fun _ => changesOnly_refl _ s))
    (changesOnly_ite (fun _ => cycleAbort_frame _ _ _) (fun _ => changesOnly_refl _ _))

theorem chargeReaction_frame (k : CondKind) (s : State) : ChangesOnly phaseReach s (chargeReaction k s) :=
  changesOnly_ite (fun _ => suspend_frame _ _) (fun _ => changesOnly_refl _ _)

theorem outputReaction_frame (k : CondKind) (s : State) : ChangesOnly [.output] s (outputReaction k s) :=
  changesOnly_ite (fun _ => withdraw_frame _) (fun _ => changesOnly_refl _ _)

theorem reactions_frame (k : CondKind) (s : State) : ChangesOnly reactBlocks s (reactions k s) :=
  changesOnly_seq (l := reactBlocks) (changesOnly_seq (driveReaction_frame k s) (chargeReaction_frame k _))
    (outputReaction_frame k _)

/-- The fields the record and the report of a raise reach (R131, R191). -/
def listBlocks : List Block := [.power, .reports, .lost, .conds]

theorem listRaise_frame (k : CondKind) (d : Option Detail) (s : State) : ChangesOnly listBlocks s (listRaise k d s) :=
  changesOnly_seq (l := [.conds, .reports, .lost])
    (changesOnly_seq (l := [.conds]) (setConds_frame s _) (report_frame _ _ _ _)) (cancelStandby_frame _ _)

theorem raise_frame (k : CondKind) (d : Option Detail) (s : State) : ChangesOnly reactBlocks s (raise k d s) :=
  changesOnly_ite (fun _ => changesOnly_refl _ s)
    (fun _ => changesOnly_seq (listRaise_frame k d s) (reactions_frame k _))

/-- A raise within a sweep leaves the session to the charge controller (R54). -/
theorem raiseInSweep_frame (k : CondKind) (d : Option Detail) (s : State) :
    ChangesOnly (listBlocks ++ stopBlocks) s (raiseInSweep k d s) :=
  changesOnly_ite (fun _ => changesOnly_refl _ s)
    (fun _ => changesOnly_seq (listRaise_frame k d s)
      (changesOnly_seq (r := stopBlocks) (driveReaction_frame k _) (outputReaction_frame k _)))

/-! ## Sessions -/

theorem beginSession_frame (s : State) : ChangesOnly phaseReach s (beginSession s) := by
  unfold beginSession
  split
  · exact changesOnly_seq (setSession_frame s _) (setPhase_frame _ _ _)
  · exact changesOnly_refl _ s

theorem endSession_frame (s : State) : ChangesOnly phaseReach s (endSession s) :=
  changesOnly_seq (l := phaseReach) (m := [.session, .conds, .reports, .lost, .output])
    (changesOnly_ite (fun _ => changesOnly_refl _ s) (fun _ => setPhase_frame _ _ s))
    (changesOnly_seq (setSession_frame _ _) (endCond_frame _ _))

theorem failSession_frame (r : PhaseReason) (s : State) : ChangesOnly reactBlocks s (failSession r s) :=
  changesOnly_seq (changesOnly_ite (fun _ => changesOnly_refl _ s) (fun _ => listRaise_frame _ _ s)) (setPhase_frame _ _ _)

/-! ## The drive's start and the end of its coast -/

/-- The fields entry into PRIMING can reach (R8). -/
def primingBlocks : List Block :=
  [.drive, .motor, .dirt, .seq, .reports, .lost, .output, .session, .monitor, .power, .fill]

theorem enterPriming_frame (s : State) : ChangesOnly primingBlocks s (enterPriming s) :=
  changesOnly_seq (l := primingBlocks)
    (changesOnly_seq (l := [.drive, .motor, .dirt, .seq, .reports, .lost, .output])
      (changesOnly_seq (l := [.drive, .motor, .dirt, .seq, .reports, .lost])
        (changesOnly_seq (l := [.drive, .motor, .dirt, .seq, .reports, .lost])
          (changesOnly_seq (l := [.drive, .motor, .dirt])
            (changesOnly_seq (l := [.drive, .motor, .dirt])
              (changesOnly_seq (l := [.drive, .motor]) (changesOnly_seq (setDrive_frame s _) (setMotor_frame _ _))
                (setDirt_frame _ _))
              (setCeiling_frame _ _))
            (postAll_frame _ _ _))
          (report_frame _ _ _ _))
        (budget_frame _))
      (refreshSweep_frame _))
    (refreshScan_frame _)

/-- The fields a start can reach, a raise of PORT_SILENT included (R181). -/
def startBlocks : List Block := primingBlocks ++ reactBlocks

theorem driveStart_frame (s : State) : ChangesOnly startBlocks s (driveStart s) :=
  changesOnly_seq (enterPriming_frame s) (changesOnly_ite (l := reactBlocks) (fun _ => raise_frame _ _ _)
    (fun _ => changesOnly_refl _ _))

theorem blockedReport_frame (s : State) : ChangesOnly [.reports, .lost] s (blockedReport s) := by
  unfold blockedReport
  split
  · exact report_frame _ _ _ s
  · exact changesOnly_refl _ s

theorem endRunFaults_frame (s : State) : ChangesOnly [.conds, .reports, .lost, .output] s (endRunFaults s) := by
  refine changesOnly_trans (t := endCond .gateSupplyFault (endCond .driveOvercurrent (endCond .motorStall s))) ?_
    (changesOnly_ite (fun _ => endCond_frame _ _) (fun _ => changesOnly_refl _ _))
  exact changesOnly_trans (changesOnly_trans (endCond_frame _ s) (endCond_frame _ _)) (endCond_frame _ _)

theorem decidePending_frame (s : State) : ChangesOnly startBlocks s (decidePending s) := by
  unfold decidePending
  refine changesOnly_ite (fun _ => ?_) (fun _ => changesOnly_refl _ s)
  refine changesOnly_ite (fun _ => ?_) (fun _ => changesOnly_mono (setDrive_frame s _) (by decide))
  exact changesOnly_ite (fun _ => changesOnly_seq (setDrive_frame s _) (blockedReport_frame _))
    (fun _ => changesOnly_seq (setDrive_frame s _) (driveStart_frame _))

theorem decidePendingDock_frame (s : State) : ChangesOnly (.cycle :: startBlocks) s (decidePendingDock s) := by
  unfold decidePendingDock
  refine changesOnly_ite (fun _ => ?_) (fun _ => changesOnly_refl _ s)
  refine changesOnly_ite (fun _ => ?_) (fun _ => changesOnly_mono (setDrive_frame s _) (by decide))
  refine changesOnly_ite (fun _ => ?_) (fun _ => changesOnly_seq (setDrive_frame s _) (driveStart_frame _))
  exact changesOnly_seq (l := [.drive, .reports, .lost]) (changesOnly_seq (setDrive_frame s _) (blockedReport_frame _))
    (cycleAborted_frame _ _)

/-- The end of a coast can reach what a start can, and the cycle's record. -/
theorem coastEnd_frame (s : State) : ChangesOnly (.cycle :: startBlocks) s (coastEnd s) := by
  refine changesOnly_seq (l := .cycle :: startBlocks) (changesOnly_seq (l := .cycle :: startBlocks)
    (changesOnly_seq (l := [.drive, .motor, .conds, .reports, .lost, .output]) (m := .cycle :: startBlocks)
      (t := endRunFaults
        ((s.setDrive { s.drive with state := .stopped }).setMotor { s.motor with period := none, coast := none }))
      (changesOnly_seq (changesOnly_seq (r := [.drive, .motor]) (setDrive_frame s _) (setMotor_frame _ _))
        (endRunFaults_frame _)) ?_)
    (refreshSweep_frame _)) (refreshScan_frame _)
  split
  · exact changesOnly_mono (decidePending_frame _) (by decide)
  · exact decidePendingDock_frame _

/-! ## What they leave -/

/-- Saturation of a value that is not negative is a bound from above (00_scope 2.4). -/
theorem saturate_nonneg (hi v : Int) (h : 0 ≤ v) : saturate hi v = min hi v := by
  unfold saturate
  omega

/-- Saturation of a natural number in two bytes. -/
theorem saturate_nat (n : Nat) : saturate 65535 (n : Int) = (min 65535 n : Nat) := by
  unfold saturate
  omega

/-- The charge used is never negative (R22). -/
theorem chargeUsed_nonneg (s : State) : 0 ≤ (chargeUsed s).tdiv 100 := by
  apply Int.tdiv_nonneg _ (by decide)
  unfold chargeUsed
  split
  · exact Int.le_max_left _ _
  · exact Int.le_refl _

/-- What a frame keeps of the part's time. -/
theorem partTime_frame {l : List Block} {s t : State} (h : ChangesOnly l s t) (hl : Block.now ∉ l) :
    t.partTime = s.partTime := by
  unfold State.partTime
  rw [h .now hl]

/-- Two reports queued one after the other. -/
theorem report_report_queued (k k' : ReportKind) (n n' : Nat) (d d' : List Byte) (s : State) (h : ReportsFit s) :
    Queued s (report k' n' d' (report k n d s))
      [{ kind := k, sub := n, time := s.partTime, data := d },
       { kind := k', sub := n', time := s.partTime, data := d' }] := by
  have h₁ := report_queued k n d s h
  have h₂ := report_queued k' n' d' _ (queued_fits h₁)
  rw [partTime_frame (report_frame k n d s) (by decide)] at h₂
  exact queued_append h₁ h₂

/-- The two reports of a stop (R22 step 7). -/
theorem stopReports_queued (r : StopReason) (s : State) (h : ReportsFit s) :
    Queued s (stopReports r s)
      [{ kind := .driveState, sub := 1, time := s.partTime, data := byteOf r.code :: le4 s.drive.nMeas },
       { kind := .sessionSummary
         sub := 0
         time := s.partTime
         data :=
           le2 (min 65535 ((s.partTime - s.drive.runStart).toNat / 100) : Nat) ++
             le2 (min 65535 (impactTotal s) : Nat) ++ le2 (min 65535 ((chargeUsed s).tdiv 100)) }] := by
  unfold stopReports
  dsimp only
  rw [saturate_nat, saturate_nat, saturate_nonneg _ _ (chargeUsed_nonneg s)]
  exact report_report_queued _ _ _ _ _ _ s h

/-- A stop in handle role: the drive, its outputs, the impact counter and the two reports, and nothing else (R21, R22). -/
theorem makeStop_stopOnly (r : StopReason) (s : State) (hr : s.role = .handle) (hf : ReportsFit s) :
    StopOnly r s (makeStop r s) := by
  rw [makeStop_handle r s hr]
  have hq := stopReports_queued r ((s.setMotor (stopMotor s)).setDrive (stopDrive r s)) hf
  have hs := stopReports_frame r ((s.setMotor (stopMotor s)).setDrive (stopDrive r s))
  have hd := dirtReset_frame (stopReports r ((s.setMotor (stopMotor s)).setDrive (stopDrive r s)))
  have hn : (dirtReset (stopReports r ((s.setMotor (stopMotor s)).setDrive (stopDrive r s)))).now = s.now :=
    (hd .now (by decide)).trans (hs .now (by decide))
  refine ⟨⟨?_, ?_, ?_⟩, ?_, ?_⟩
  · rw [hd .drive (by decide), hs .drive (by decide)]
    simp only [setDrive_drive]
    unfold stopDrive latchOff permissionAfter
    cases hm : s.driveCfg.mode <;> cases hk : r.keeps <;> simp
  · rw [hd .motor (by decide), hs .motor (by decide), hn]
    rfl
  · unfold dirtReset
    simp only [setDirt_dirt]
    rw [hs .dirt (by decide)]
    rfl
  · have hp : (dirtReset (stopReports r ((s.setMotor (stopMotor s)).setDrive (stopDrive r s)))).partTime = s.partTime := by
      unfold State.partTime
      rw [hn]
    unfold stopReportsOf
    rw [hp]
    unfold Queued at hq ⊢
    rw [hd .reports (by decide), hd .lost (by decide), hq.1, hq.2]
    have hm : (stopDrive r s).nMeas = s.drive.nMeas ∧ (stopDrive r s).runStart = s.drive.runStart ∧
        (stopDrive r s).startCharge = s.drive.startCharge := by
      unfold stopDrive latchOff permissionAfter
      cases s.driveCfg.mode <;> cases r.keeps <;> exact ⟨rfl, rfl, rfl⟩
    simp [impactTotal, chargeUsed, hr, State.partTime, hm.1, hm.2.1, hm.2.2]
  · exact changesOnly_seq (l := [.drive, .motor, .reports, .lost])
      (changesOnly_seq (l := [.drive, .motor]) (changesOnly_seq (setMotor_frame s _) (setDrive_frame _ _)) hs)
      hd

/-- An end of an ACTIVE record (R132): the record, its report, in dock role the output's status. -/
theorem endCond_active (k : CondKind) (s : State) (hf : ReportsFit s) (h : condActive s k = true) :
    Ended k s (endCond k s) ∧ Queued s (endCond k s) [endedReportOf k s (endCond k s)] := by
  have hfr := endCond_frame k s
  have hp := partTime_frame hfr (by decide)
  unfold condActive at h
  cases hc : condOf s k with
  | none => simp [hc] at h
  | some c =>
    rw [hc] at h
    have he : endCond k s = refreshStatus
        (report .conditionEnded k.code [byteOf c.occurrences]
          (s.setConds (mapCond k (fun r => { r with active := false }) s.conds))) := by
      unfold endCond
      rw [hc]
      simp only [show c.active = true from h, if_true]
    have hr := refreshStatus_frame (report .conditionEnded k.code [byteOf c.occurrences]
          (s.setConds (mapCond k (fun r => { r with active := false }) s.conds)))
    have hq := report_queued .conditionEnded k.code [byteOf c.occurrences]
      (s.setConds (mapCond k (fun r => { r with active := false }) s.conds)) hf
    constructor
    · unfold Ended
      rw [he, hr .conds (by decide), report_same .conds _ _ _ _ (by decide)]
      simp [mapCond]
    · unfold endedReportOf
      rw [hp, hc]
      unfold Queued at hq ⊢
      rw [he, hr .reports (by decide), hr .lost (by decide), hq.1, hq.2]
      simp [State.partTime]

/-- A raise where nothing runs and no session can be suspended: the record and its report, and trigger-on (R131, R135). -/
theorem raise_calm (k : CondKind) (d : Option Detail) (s : State) (hc : Calm s) (hf : ReportsFit s)
    (ha : condActive s k = false) (hp : k ≠ .portSilent) (hb : k ≠ .bagFull) : RaisedCalmly k d s (raise k d s) := by
  obtain ⟨hrole, -, hrun, hsus, hsb⟩ := hc
  have hx : raise k d s = reactions k (raisedReport k (raisedOcc k s.conds) d
      (s.setConds (raisedList k d s.partTime s.conds))) := by
    have hpw := report_frame .conditionRaised k.code
      ([byteOf (raisedOcc k s.conds), boolByte d.isSome] ++ detailField d)
      (s.setConds (raisedList k d s.partTime s.conds)) .power (by decide)
    have hn := cancelStandby_none .condition (raisedReport k (raisedOcc k s.conds) d
      (s.setConds (raisedList k d s.partTime s.conds))) ((congrArg Power.standbyPending hpw).trans hsb)
    simp [raise, listRaise, ha, hn]
  have hq := report_queued .conditionRaised k.code ([byteOf (raisedOcc k s.conds), boolByte d.isSome] ++ detailField d)
    (s.setConds (raisedList k d s.partTime s.conds)) hf
  have hfr := report_frame .conditionRaised k.code ([byteOf (raisedOcc k s.conds), boolByte d.isSome] ++ detailField d)
    (s.setConds (raisedList k d s.partTime s.conds))
  rw [hx]
  unfold raisedReport
  generalize report .conditionRaised k.code ([byteOf (raisedOcc k s.conds), boolByte d.isSome] ++ detailField d)
    (s.setConds (raisedList k d s.partTime s.conds)) = u at hq hfr
  have hu : u.drive = s.drive := hfr .drive (by decide)
  have hur : u.role = .handle := (hfr .role (by decide)).trans hrole
  have hus : u.session = s.session := hfr .session (by decide)
  have huc : u.driveCfg = s.driveCfg := hfr .driveCfg (by decide)
  have hun : u.partTime = s.partTime :=
    partTime_frame (s := s.setConds (raisedList k d s.partTime s.conds)) hfr (by decide)
  have hre : reactions k u =
      if k.inhibitsDrive then u.setDrive (latchOff u.driveCfg.mode u.drive) else u := by
    have hst : ∀ v : State, v.role = .handle → v.session = s.session →
        (if k.inhibitsOutput then withdraw (if k.inhibitsCharge && (v.role == .handle) then suspend false v else v)
          else if k.inhibitsCharge && (v.role == .handle) then suspend false v else v) = v := by
      intro v hv hvs
      have : suspend false v = v := suspend_same false v (by
        unfold suspendable at hsus ⊢
        rw [hvs]
        exact hsus)
      simp [this, withdraw_handle v hv]
    have hstop : stopEvent .inhibited u = u.setDrive (latchOff u.driveCfg.mode u.drive) := by
      rw [stopEvent_notRunning _ u (by rw [hu]; exact hrun)]
      rfl
    unfold reactions outputReaction chargeReaction driveReaction
    simp only [beq_eq_false_iff_ne.mpr hp, beq_eq_false_iff_ne.mpr hb, Bool.false_eq_true, if_false, hstop]
    exact hst _ (by split <;> exact hur) (by split <;> exact hus)
  have ht : (reactions k u).partTime = s.partTime := by
    rw [hre]
    split <;> exact hun
  refine ⟨?_, ?_, ?_⟩
  · have hcd : (reactions k u).conds = raisedList k d s.partTime s.conds := by
      rw [hre]
      split <;> exact hfr .conds (by decide)
    unfold Raised
    rw [hcd, ht]
    unfold raisedList condOf mapCond
    cases s.conds.find? (fun r => r.kind == k) with
    | none => rfl
    | some c => simp
  · have h₁ : (reactions k u).reports = u.reports ∧ (reactions k u).lost = u.lost := by
      rw [hre]
      split <;> exact ⟨rfl, rfl⟩
    unfold raisedReportOf
    rw [ht]
    unfold Queued at hq ⊢
    rw [h₁.1, h₁.2, hq.1, hq.2]
    unfold raisedOcc condOf
    have hm : ∀ n : Nat, ((min 255 (n + 1) : Nat) : Int) = min 255 ((n : Int) + 1) := fun n => by omega
    cases s.conds.find? (fun r => r.kind == k) <;> simp [State.partTime, hm]
  · rw [hre]
    cases k.inhibitsDrive with
    | false =>
      simp only [Bool.false_eq_true, if_false, Bool.not_false, Bool.true_or, Bool.and_true]
      rw [hu]
    | true =>
      simp only [if_true, setDrive_drive, Bool.not_true, Bool.false_or]
      rw [hu, huc]
      unfold latchOff
      cases s.driveCfg.mode <;> simp

/-- In dock role, with no standby pending, the arrival of a frame changes nothing of its own (R181, R191). -/
theorem received_dock (s : State) (hr : s.role = .dock) (hs : s.power.standbyPending = false) : received s = s := by
  simp [received, cancelStandby_none _ s hs, heard, hr]

/-! ## Received codes (R194, R198) -/

/-- A code that names a value is read as that value, whatever the free value. -/
theorem codeValue_named {α : Type} (first : α) (rest : List α) (spare : Nat) (code : Byte)
    (h : code.toNat < (first :: rest).length) : codeValue first rest spare code = (first :: rest)[code.toNat] := by
  simp only [codeValue, List.getD_eq_getElem?_getD, List.getElem?_eq_getElem h, Option.getD_some]

/-- A code is read as one of the field's values, whatever it is. -/
theorem codeValue_mem {α : Type} (first : α) (rest : List α) (spare : Nat) (code : Byte) :
    codeValue first rest spare code ∈ first :: rest := by
  have mem (n : Nat) (d : α) (hd : d ∈ first :: rest) : (first :: rest).getD n d ∈ first :: rest := by
    rw [List.getD_eq_getElem?_getD]
    cases h : (first :: rest)[n]? with
    | none => exact hd
    | some a => exact List.mem_of_getElem? h
  exact mem _ _ (mem _ _ List.mem_cons_self)

end Sys2Proof.Laws
end

