-- ==== Sys2Proof/WellFormed.lean ====
section
/-! DEFINITION. Which commands are well formed: the operands an event of the part can carry. A host request carries any
bytes (the part answers each), and so does a pin's event; the frames and payloads of the dock link keep the bounds of
R142 and R198. -/

namespace Sys2Proof

/-- A frame of the dock link is at most 15 bytes long (R142). -/
def frameFits (f : List Byte) : Bool := decide (f.length ≤ 15)

/-- The abort reason is given exactly for ABORTED (R174). -/
def reasonFits (d : EvacState) (r : Option AbortReason) : Bool := r.isSome == (d == .aborted)

/-- The operands are ones the event can carry. -/
def WellFormed (i : Instr) : Bool :=
  match i with
  | .linkResponseInvalid f _ => frameFits f
  | .dockFrameDiscarded f _ => frameFits f
  | .identResponse p => decide (p.bagLevel.toNat ≤ 6)
  | .setpointResponse p => decide (p.vLim.toNat ≤ 30000)
  | .evacQueryResponse d e r => reasonFits d r && decide (e.toNat ≤ 60)
  | .exchangeStart w => decide (w < 4294967296)
  | _ => true

end Sys2Proof
end

