-- ==== Sys2Proof/Tests/Slice0.lean ====
section
/-! SUPPORT. Tests: the refusals of WellFormed, the manual's worked cases, and for every obligation with hypotheses states
and operands that meet them, clause by clause. -/

namespace Sys2Proof.Tests

open Sys2Proof Sys2Proof.Machine

/-! ## WellFormed refuses what the link cannot carry (R142, R174, R198) -/

theorem test_wellFormed_frame_of_sixteen_bytes_in : WellFormed (.linkResponseInvalid (List.replicate 16 0) true) = false := by
  decide

theorem test_wellFormed_frame_of_sixteen_bytes_out : WellFormed (.dockFrameDiscarded (List.replicate 16 0) true) = false := by
  decide

theorem test_wellFormed_bag_level_seven : WellFormed (.identResponse { resetIdentity with bagLevel := 7 }) = false := by
  decide

theorem test_wellFormed_voltage_over_30000 :
    WellFormed (.setpointResponse { vLim := 30001, iLim := 0, vOut := 0, iOut := 0, status := .on }) = false := by
  decide

theorem test_wellFormed_reason_without_abort : WellFormed (.evacQueryResponse .done 0 (some .stopped)) = false := by decide

theorem test_wellFormed_abort_without_reason : WellFormed (.evacQueryResponse .aborted 0 none) = false := by decide

theorem test_wellFormed_elapsed_over_60 : WellFormed (.evacQueryResponse .running 61 none) = false := by decide

theorem test_wellFormed_wait_over_32_bits : WellFormed (.exchangeStart 4294967296) = false := by decide

theorem test_wellFormed_accepts :
    WellFormed (.linkResponseInvalid (List.replicate 15 0) true) = true ∧
      WellFormed (.evacQueryResponse .aborted 60 (some .bagFull)) = true ∧ WellFormed (.run 0 0 0) = true := by
  decide

/-! ## Reset and the queue -/

/-- The table gives no row bits, so that no word spells a command. -/
theorem test_no_word_spells_a_command : decodeTableWord 16 0x1234 = none := by decide

theorem test_reset_queue_is_empty : State.reset.pending = [] := by decide

/-! ## States -/

/-- The part active, its fast clock running, 5 s after start-up, everything else as after reset. -/
def wBase (r : Role) : State :=
  { State.reset with
    role := r
    pins := { State.reset.pins with role := r }
    now := 5000000000
    power := { State.reset.power with state := .active, fast := .running, trimPassed := true } }

/-- Such a part in handle role. -/
def wH : State := wBase .handle

/-- Such a stick with fresh records of PACK_V and PACK_I. -/
def wC : State :=
  setChan .packV { wH.chan .packV with time := wH.partTime, valid := true }
    (setChan .packI { wH.chan .packI with time := wH.partTime, valid := true } wH)

/-- Such a part in dock role. -/
def wD : State := wBase .dock

/-- Such a stick in LATCH mode, with a press to qualify. -/
def wL : State :=
  { wH with
    motor := { wH.motor with candidate := some (wH.now + 5) }
    pins := { wH.pins with trig := true }
    driveCfg := { wH.driveCfg with mode := .latch } }

/-- A conversion of a channel for the pack monitor, under way. -/
def packConversion (c : Chan) : Conversion :=
  { chan := c, set := noRequesters.add .pack, count := 1, codes := nominalCodes, endsAt := 5000000050 }

/-- Such a stick with one value of its sweep to come. -/
def wS : State :=
  { wH with
    seq := { wH.seq with inFlight := some (packConversion .packI) }
    monitor :=
      { wH.monitor with
        sweep :=
          some
            (([.cell1, .cell2, .cell3, .cell4, .cell5, .cell6, .cell7, .packV, .packT, .bridgeT] : List Chan).map
              (fun c => { chan := c, value := (wH.chan c).value + c.index.val, mark := .none })) } }

/-- Such a dock with one value of its sweep to come. -/
def wB : State :=
  { wD with
    seq := { wD.seq with inFlight := some (packConversion .packT) }
    monitor :=
      { wD.monitor with
        sweep :=
          some
            (([.busV, .bridgeT] : List Chan).map
              (fun c => { chan := c, value := (wD.chan c).value + c.index.val, mark := .none })) } }

/-- Such a stick with a stall to acknowledge and cells at 3,900 mV. -/
def wI : State :=
  { wH with
    conds := [{ kind := .motorStall, active := false, first := 0, last := 0, occurrences := 1, detail := none }]
    pack := { State.reset.pack with cells := #v[3900, 3900, 3900, 3900, 3900, 3900, 3900] } }

/-- The state a command leaves. -/
def after (c : Instr) (s : State) : State := (afterCommand c s).getD s

/-! ## Worked cases of the drive (chapters 1 and 2) -/

/-- 2.10, Regulation at a temperature limit: the terms and P_meas. -/
theorem test_terms_at_a_temperature_limit :
    measuredPower 24100 12450 = 300 ∧ cellTerm 520 3400 3000 3280 = 364 ∧ tempTerm 520 550 612 = 305 ∧
      tempTerm 520 850 720 = 520 := by
  decide

/-- The same: the ceiling is 305 with TEMP_PACK, and the hold band keeps the duty. -/
theorem test_ceiling_at_a_temperature_limit :
    ceilingOf .handle { level := 320, cell := 364, tempPack := 305, tempBridge := 520, clog := 320 } 480 =
        (305, .tempPack) ∧
      newDuty 700 (dutyStep 300 305 105000 101200) = 700 := by
  decide

/-- The same, some periods later: 92 W over the ceiling. -/
theorem test_cut_at_a_temperature_limit : newDuty 700 (dutyStep 300 208 105000 101200) = 677 := by decide

/-- 2.10, Cuts of different sizes. -/
theorem test_cuts :
    [1, 3, 7, 23, 92, 160, 292].map (fun x => dutyStep (300 + x) 300 0 0) = [-1, -1, -1, -5, -23, -40, -40] := by
  decide

/-- 2.10: P_exp in the first case and in A clog forming. -/
theorem test_expected_power :
    expectedPower 280 (speedRatio 101200 105000) = 250 ∧ expectedPower 280 (speedRatio 108000 105000) = 304 := by
  decide

/-- 2.10, Derating to a stop near empty. -/
theorem test_cell_term_near_empty : cellTerm 520 3400 3000 3023 = 29 ∧ cellTerm 520 3400 3000 3024 = 31 := by decide

/-- 1.4, Worked start sequence: the 263rd period brings n_eff to n_tgt. -/
theorem test_ramp_ends_at_the_target : ramp 104400 105000 = 104800 ∧ ramp 104800 105000 = 105000 := by decide

/-- 1.6, Worked speed measurement. -/
theorem test_speed :
    speedOfRing [798, 802, 801, 799, 800, 803] = 99937 ∧ speedOfRing [802, 801, 799, 800, 803, 806] = 99771 ∧
      speedOfRing [40000] = 2000 ∧ speedOfRing [40000, 30000] = 2285 ∧ speedOfRing [40000, 30000, 20000] = 2666 := by
  decide

/-- 1.4: RUN MANUAL 3 arms the drive, in STOPPED. -/
theorem test_run_arms :
    (after (.run 1 0 3) wH).drive.armed = true ∧ (after (.run 1 0 3) wH).drive.mode = .manual 3 ∧
      (after (.run 1 0 3) wH).drive.state = .stopped := by
  decide

/-- 1.4: a press qualified starts the armed drive. -/
theorem test_press_starts :
    let s := { wH with drive := { wH.drive with armed := true, mode := .manual 3 } }
    let t := after .triggerQualified (after (.triggerPinChange true) s)
    t.drive.state = .priming ∧ t.drive.nTgt = 105000 ∧ t.drive.runStart = s.partTime + 4 ∧ t.drive.duty = 0 := by
  decide

/-- 1.4: the settle expiry with the pump good enters SPIN_UP at D 40. -/
theorem test_settle_enters_spin_up :
    let s := { wH with drive := { wH.drive with state := .priming }, motor := { wH.motor with settle := some wH.now } }
    let t := after (.pumpSettleExpiry true 0b101) s
    t.drive.state = .spinUp ∧ t.drive.duty = 40 ∧ t.motor.spinUp = some (s.now + 500000000) := by
  decide

/-- R15: at 5 s the 8 MHz count stands at 40,000,000; an edge 3 counts later, 640 counts after the reference, gives 125,000
rpm. -/
theorem test_edge_interval :
    let s := { wH with
      pins := { wH.pins with hall := 0b101 }
      motor := { wH.motor with refStamp := some (40000003 - 640) } }
    let t := after (.hallEdge 0b100 3) s
    t.motor.ring = [640] ∧ t.motor.refStamp = some 40000003 ∧ t.drive.nMeas = 125000 := by
  decide

/-- R135, R191: the raise that cancels a pending standby reports itself first. -/
theorem test_raise_reports_before_the_wake :
    let s := { wH with power := { wH.power with standbyPending := true } }
    ((raise .dockLinkFault none s).reports.map (·.kind)) = [.conditionRaised, .wake] := by
  decide

/-- R123: of class 2, 0 and 0 the older class 0 entry is taken. -/
theorem test_arbiter_takes_the_oldest_of_class_0 :
    let e := fun (c : Chan) (k : Nat) => ({ chan := c, set := noRequesters, cls := k, count := 1 } : Entry)
    let t := arbiter { wH with seq := { wH.seq with queue := [e .cell1 2, e .packV 0, e .packI 0] } }
    t.seq.queue = [e .cell1 2, e .packI 0] ∧ t.seq.inFlight.map (·.chan) = some .packV := by
  decide

/-- R157: a stop pending does not survive HALT DOCK_LINK, with the record NONE too. -/
theorem test_halt_drops_the_pending_stop :
    (after (.haltDockLink 1) { wH with link := { wH.link with stopPending := true } }).link.stopPending = false := by
  decide

/-- R26, R22: HALT_DRIVE stops a running fan. -/
theorem test_halt_stops :
    let s := { wH with drive := { wH.drive with state := .regulate, duty := 700, armed := true } }
    let t := after (.haltDrive 1) s
    t.drive.state = .coasting ∧ t.drive.duty = 0 ∧ t.drive.armed = false ∧ t.reports.map (·.kind) =
      [.driveState, .sessionSummary] := by
  decide

/-! ## Worked cases of the pack monitor and the charge controller (chapters 3 and 4) -/

/-- 3.3: the taps sum to 412 mV less than PACK_V. -/
theorem test_tap_difference :
    let p := { resetPackRec with cells := #v[3801, 3795, 3803, 3799, 3800, 3402, 3798], packMv := 26610 }
    tapDifference p = -412 ∧ mismatched p = true := by
  decide

/-- 3.5, Worked counting: the first and the sixth sweep, and a charge. -/
theorem test_counting :
    let c := { resetCounter with capacity := 2500 }
    ((countCharge 12450 20 { c with q := 1400000 }).q, (countCharge 12450 20 { c with q := 1400000 }).residual) =
        (1399931, -600) ∧
      countCharge 12450 20 { c with q := 1399655, residual := -3000 } =
        { c with q := 1399585, residual := 0, soc := 55 } ∧
      (countCharge (-2000) 20 { c with q := 1400000 }).q = 1400011 ∧
      (countCharge (-2000) 20 { c with q := 1400000 }).residual = 400 := by
  decide

/-- 3.5, the worked first estimates. -/
theorem test_first_estimate :
    [3760, 3300, 4050, 2950].map (fun v => (firstEstimate v { resetCounter with capacity := 2500 }).q) =
      [1400000, 150000, 2250000, 0] := by
  decide

/-- 4.9, Worked balance set. -/
theorem test_balance_set :
    balanceSet { resetPackRec with cells := #v[4190, 4172, 4185, 4160, 4199, 4168, 4185], vmin := 4160 } = [5, 1, 3] ∧
      balanceSet { resetPackRec with cells := #v[4190, 4172, 4180, 4160, 4199, 4168, 4186], vmin := 4160 } = [5, 1, 7] := by
  decide

/-- 4.12, Constant current to constant voltage: the adjustments. -/
theorem test_constant_voltage_requests :
    adjustedRequest 2000 4206 4200 2000 = 1950 ∧ adjustedRequest 1950 4204 4200 2000 = 1900 ∧
      adjustedRequest 1900 4200 4200 2000 = 1900 ∧ adjustedRequest 1900 4188 4200 2000 = 1925 := by
  decide

/-! ## Worked cases of the sensing block and the sequencer (chapters 5 and 6) -/

/-- 5.3, Worked dirt grading: the rates and the grade met. -/
theorem test_dirt_rates :
    rateOf [9, 8, 10, 9] = 180 ∧ rateOf [9, 8, 10, 9, 8] = 176 ∧ metGrade resetSensingCfg 176 = 2 := by
  decide

/-- 5.4, Worked timing. -/
theorem test_scan_times :
    scanNs resetSensingCfg 12 = 1544000 ∧ scanNs { resetSensingCfg with clockMhz := 12 } 12 = 2912000 ∧
      scanNs resetSensingCfg 9 = 352000 := by
  decide

/-- 5.6, Worked scan: E1, E2 and E6 are covered, and the raw level is 2. -/
theorem test_worked_scan :
    let e := fun b => resetElectrode b
    let s :=
      { wH with
        fill :=
          { wH.fill with
            electrodes := #v[e 48000, e 47200, e 47200, e 46400, e 46400, e 45600, e 50000, e 40000]
            scan := some { width := 12, endsAt := wH.now, rebase := false } } }
    let t := after (.scanCompletion #v[2650, 2680, 2700, 2890, 2896, 2600, 3110, 2380]) s
    t.fill.rawLevel = 2 ∧ t.fill.electrodes.toList.map (·.delta) = [5360, 4080, 3760, 0, 0, 3760, 0, 0] ∧
      t.fill.electrodes.toList.map (·.covered) = [true, true, false, false, false, true, false, false] := by
  decide

/-- 6.3, Worked conversion times. -/
theorem test_conversion_times :
    conversionNs { clock := 0, pre := 1, sample := 3, gap := 2 } 1 = 4825 ∧
      conversionNs { clock := 0, pre := 1, sample := 3, gap := 2 } 4 = 19300 ∧
      conversionNs { clock := 1, pre := 2, sample := 7, gap := 0 } 4 = 36136 ∧
      conversionNs { clock := 3, pre := 3, sample := 63, gap := 31 } 8 = 833600 := by
  decide

/-- 6.4, Worked calibration: PACK_V, and the clamp. -/
theorem test_linear_calibration :
    calibrate .packV (.linear 512200 13) 3082 = 24100 ∧ calibrate .packV (.linear 512200 13) 4095 = 32000 := by
  decide

/-- 6.4: the thermistor readings with the nominal breakpoints, and their marks. -/
theorem test_thermistor_calibration :
    [2100, 1800, 3950, 200].map (calibrate .packT (nominalCal .packT)) = [425, 500, -400, 1250] ∧
      [2100, 4061, 38].map (markOf .packT) = [.none, .openCircuit, .short] := by
  decide

/-! ## Worked cases of watches and conditions (chapter 7) -/

/-- 7.9, Worked watches: slot 2. -/
theorem test_watch_on_pack_temperature :
    let w : Watch := { quantity := .chan .packT, rising := true, threshold := 550, hysteresis := 50, fired := false }
    let q := Quantity.chan .packT
    watchAfter (some w) q 538 = some w ∧ watchAfter (some w) q 551 = some { w with fired := true } ∧
      watchAfter (some { w with fired := true }) q 512 = some { w with fired := true } ∧
      watchAfter (some { w with fired := true }) q 500 = some w := by
  decide

/-- 7.4, Worked acknowledgement: STILL_ACTIVE, STALE, and the removal. -/
theorem test_acknowledgement :
    let r : CondRec :=
      { kind := .chargeTemp, active := false, first := 60100, last := 600020, occurrences := 2, detail := some (.number 452) }
    let s := { wH with conds := [r] }
    let reply := fun (t : State) => t.port.reply.map (·.status)
    reply (after (.ackCondition 1 (byteOf CondKind.chargeTemp.code) 1) { s with conds := [{ r with active := true }] }) =
        some .stillActive ∧
      reply (after (.ackCondition 1 (byteOf CondKind.chargeTemp.code) 1) s) = some .stale ∧
      (after (.ackCondition 1 (byteOf CondKind.chargeTemp.code) 2) s).conds = [] := by
  decide

/-! ## Worked cases of the dock and the host port (chapters 9 and 10) -/

/-- 9.6, Worked emptying sequence: EVAC_START of 15 s. -/
theorem test_evacuation_starts :
    let s :=
      { wD with
        evacFit := true
        responder := { wD.responder with present := true, keepAlive := some (wD.now + 1000000000) }
        supply := { wD.supply with valid := true, ambientT := 250, bridgeT := 250 }
        driveCfg :=
          { wD.driveCfg with
            levels := wD.driveCfg.levels.set 3 { speed := 95000, pLevel := 450, pRef := 380, clogRatio := 600 } }
        dockCfg := { wD.dockCfg with level := 4 }
        output :=
          { wD.output with
            permission := true
            vLim := 29400
            iRequested := 2000
            iApp := 2000
            status := .on
            period := some (wD.now + 500000) } }
    let t := after (.evacStartRequest 15) s
    t.cycle.state = .starting ∧ t.drive.state = .priming ∧ t.drive.pCeil = 450 ∧ t.drive.limit = .level ∧
      t.output.iApp = 1020 ∧ t.output.status = .limited ∧ .evacuation ∈ t.reports.map (·.kind) := by
  decide

/-- 10.1: the smallest request is KEEPALIVE with TAG 0x17. -/
theorem test_smallest_request :
    (receiveAll [0xC3, 0x02, 0x04, 0x17, 0xE3] wH).map (fun t => t.port.reply.map (fun r => (r.kind, r.tag, r.status))) =
      some (some (0x84, 0x17, .ok)) := by
  decide

/-- 10.1: KEEPALIVE's frame, and its bytes. -/
theorem test_smallest_frame : (requestFrame (.keepalive 0x17)).map frameBytes = some [0xC3, 0x02, 0x04, 0x17, 0xE3] := by
  decide

/-- 10.2, Worked overrun: a third request in the buffer's place is lost, with the flag set. -/
theorem test_overrun :
    let f : Frame := { len := 2, kind := 0x04, tag := 0, payload := [] }
    let s :=
      { wH with
        port :=
          { wH.port with
            buffer := [f, f]
            reply :=
              some
                { kind := 0x83
                  tag := 0
                  status := .ok
                  reportsPending := true
                  overrun := false
                  role := .handle
                  payload := [] } } }
    let t := after (.keepalive 9) s
    t.port.buffer = [f, f] ∧ t.port.overrun = true ∧ t.port.silence = some (s.now + 500000000) := by
  decide

/-- R182: the seventeenth report is lost, with the flag set. -/
theorem test_seventeenth_report :
    let r : Report := { kind := .started, sub := 0, time := 0, data := [] }
    let s := { wH with reports := List.replicate 16 r }
    (report .wake 0 [] s).reports.length = 16 ∧ (report .wake 0 [] s).lost = true := by
  decide

/-! ## Choices and corners of the link, the port and start-up -/

/-- R197: the DISPLACED report of an entry of count 4 carries the count's averaging bits, 2 in bits 15 and 14. -/
theorem test_displaced_keeps_the_averaging_bits :
    let e : Entry := { chan := .cell1, set := noRequesters.add .port, cls := 2, count := 4 }
    let others : List Chan := [.cell2, .cell3, .cell4, .cell5, .cell6, .cell7, .packV, .packT, .bridgeT, .ref, .dockV]
    let s :=
      { wH with
        seq :=
          { wH.seq with
            inFlight := some (packConversion .ref)
            queue := e :: others.map (fun c => { chan := c, set := noRequesters.add .pack, cls := 3, count := 1 }) } }
    (post .drive s .packI).reports.map (·.data) = [[1, 0, 0, 0, 0x00, 0x80]] := by
  decide

/-- R193: the byte whose start bit woke the part is lost, and the next one is received. -/
theorem test_wake_byte_is_lost :
    let s := { wH with port := { wH.port with wakeByte := some (wH.now + 43402) } }
    let t := after (.hostByteReceived 0xC3) s
    t.port.rx = .hunt ∧ (after (.hostByteReceived 0xC3) t).port.rx = .length := by
  decide

/-- R188: the start-up of a RESTART samples **ROLE** and **EVAC_FIT**. -/
theorem test_restart_samples_the_straps :
    let r : Reply :=
      { kind := 0xE1
        tag := 1
        status := .ok
        reportsPending := false
        overrun := false
        role := .handle
        payload := [] }
    let s := { wH with pins := { wH.pins with role := .dock, fit := true }, port := { wH.port with reply := some r } }
    let t := after .replyEnd s
    t.role = .dock ∧ t.evacFit = true ∧ t.power.cause = .restart := by
  decide

/-- R142, R159: received bytes that make a valid EVAC_QUERY request are that request, and a wrong CHECK makes them none. -/
theorem test_request_bytes_are_taken :
    (after (.dockFrameDiscarded [0xA5, 0x04, 0x00, 0x04] true) wD).responder.response.isSome = true ∧
      (after (.dockFrameDiscarded [0xA5, 0x04, 0x00, 0x05] true) wD).responder.response = none ∧
      (after (.dockFrameDiscarded [0xA5, 0x04, 0x00, 0x04] false) wD).responder.response = none := by
  decide

/-- R78, R148: a move from IDENTIFYING to FAULT leaves a session in QUALIFY alone. -/
theorem test_fault_from_identifying_does_not_suspend :
    let s :=
      { wH with
        conds := [{ kind := .dockLinkFault, active := true, first := 1, last := 2, occurrences := 3, detail := none }]
        session := { wH.session with phase := .qualify }
        link :=
          { wH.link with
            state := .identifying
            failures := 2
            exchange :=
              some
                { kind := .ident
                  frame := []
                  enable := false
                  idleLimit := wH.now
                  sentAt := some wH.now
                  receiving := true } } }
    let t := after (.linkFailureLimit .timeout) s
    t.link.state = .fault ∧ t.session.phase = .qualify := by
  decide

/-- A stick in LINKED whose request of kind `k` with frame `f` ends on the line at `sentAt`. -/
def wX (k : Exch) (f : List Byte) (sentAt : Nat) (receiving : Bool) : State :=
  { wH with
    link :=
      { wH.link with
        state := .linked
        evac := .running
        failures := 1
        exchange :=
          some
            { kind := k
              frame := f
              enable := false
              idleLimit := wH.now
              sentAt := some sentAt
              receiving := receiving } } }

/-- R147: contention belongs to the sending of the frame (5 bytes, 2.604166 ms), not to the wait for the idle line. -/
theorem test_contention_while_sending :
    let t := after (.linkContention) (wX .evacStart [0xA5, 0x03, 0x01, 0x0F, 0x0D] (wH.now + 9000000) false)
    t.now = wH.now + 9000000 - 2604166 ∧ t.link.lastOutcome = .contention := by
  decide

/-- R147, R198: the bytes of an EVAC_QUERY response DONE after 15 s are that response. -/
theorem test_response_bytes_are_taken :
    let t := after (.linkResponseInvalid [0xA5, 0x44, 0x03, 0x03, 0x0F, 0x00, 0x4B] true) (wX .evacQuery [] wH.now true)
    t.link.evac = .none ∧ t.link.postCount = some 0 ∧ t.free = 0 := by
  decide

/-- R147: a valid response whose code names no value succeeds with outcome OK (log entry 24). -/
theorem test_response_with_unnamed_code_succeeds :
    let t := after (.linkResponseInvalid [0xA5, 0x45, 0x01, 0x09, 0x4D] true) (wX .evacStop [] wH.now true)
    t.link.exchange = none ∧ t.link.failures = 0 ∧ t.link.lastOutcome = .ok ∧ t.free = 1 := by
  decide

/-- R88, R135: CONDITION_RAISED of CHARGE_FAILED precedes the CHARGE_PHASE of FAILED. -/
theorem test_failure_raises_before_it_reports_the_phase :
    let s :=
      { wH with session := { wH.session with phase := .precharge, request := 250, precharge := some wH.now } }
    (after (.prechargeTimerExpiry) s).reports.map (·.kind) = [.conditionRaised, .chargePhase] := by
  decide

/-! ## Witnesses -/

/-- Witnesses of the hypotheses of TriggerQualification, clause by clause. -/
theorem witness_TriggerQualification :
    (∃ s : State, (s.up = false ∨ s.role = .dock) ∧ s.power.waiting = []) ∧
    (∃ s : State, s.up = true ∧ s.role = .handle ∧ s.power.waiting = []) ∧
    (∃ s : State, s.up = true ∧ s.role = .handle ∧ s.power.waiting = [] ∧ s.driveCfg.rejectMs ≠ 0) ∧
    (∃ (s : State) (d : Nat), s.motor.candidate = some d ∧ s.up = true ∧ s.power.waiting = [] ∧ s.pins.trig = false ∧
      s.driveCfg.mode = .hold ∧ s.drive.state.running = false) ∧
    (∃ (s : State) (d : Nat), s.motor.candidate = some d ∧ s.up = true ∧ s.power.waiting = [] ∧ s.pins.trig = false ∧
      s.driveCfg.mode = .latch) ∧
    (∃ (s : State) (d : Nat), s.motor.candidate = some d ∧ s.up = true ∧ s.power.waiting = [] ∧ s.power.state = .active
      ∧ s.power.standbyPending = false ∧ s.pins.trig = true ∧ s.driveCfg.mode = .hold ∧ s.drive.armed = false) ∧
    (∃ s : State, s.role = .handle ∧ s.power.state = .active ∧ s.power.waiting = [] ∧ s.power.standbyPending = false ∧
      s.motor.candidate = none ∧ s.driveCfg.rejectMs = 0 ∧ s.drive.trigPressed = false ∧ s.driveCfg.mode = .hold ∧ s.drive.armed = false) ∧
    (∃ (s : State) (d : Nat), s.motor.candidate = some d ∧ s.up = true ∧ s.role = .handle ∧ s.power.waiting = []) ∧
    (∃ (s : State) (d : Nat), s.motor.candidate = some d ∧ s.up = true ∧ s.power.waiting = [] ∧ s.power.state = .active
      ∧ s.power.standbyPending = false ∧ s.pins.trig = true ∧ s.driveCfg.mode = .latch ∧ s.drive.trigOn = false ∧
      s.drive.armed = false) ∧
    (∃ (s : State) (d : Nat), s.motor.candidate = some d ∧ s.up = true ∧ s.power.waiting = [] ∧ s.power.state = .active
      ∧ s.power.standbyPending = false ∧ s.pins.trig = true ∧ s.driveCfg.mode = .latch ∧ s.drive.trigOn = true ∧
      s.drive.state.running = false) ∧
    (∃ (s : State) (d : Nat), s.motor.candidate = some d ∧ s.up = true ∧ s.power.waiting = [] ∧ s.power.state = .active
      ∧ s.power.standbyPending = false ∧ s.pins.trig = true ∧ s.driveCfg.mode = .latch ∧ s.drive.trigOn = false ∧
      s.drive.armed = true ∧ s.drive.state = .stopped ∧ driveInhibited s = true ∧ ReportsFit s) :=
  ⟨⟨{ wH with role := .dock }, (by decide)⟩,
   ⟨{ wH with motor := { wH.motor with candidate := some (wH.now + 5) } }, (by decide)⟩,
   ⟨wH, (by decide)⟩,
   ⟨{ wH with motor := { wH.motor with candidate := some (wH.now + 5) } }, _, rfl, (by decide)⟩,
   ⟨{ wH with
     motor := { wH.motor with candidate := some (wH.now + 5) }, driveCfg := { wH.driveCfg with mode := .latch } }, _,
     rfl, (by decide)⟩,
   ⟨{ wH with motor := { wH.motor with candidate := some (wH.now + 5) }, pins := { wH.pins with trig := true } }, _,
     rfl, (by decide)⟩,
   ⟨{ wH with driveCfg := { wH.driveCfg with rejectMs := 0 } }, (by decide)⟩,
   ⟨{ wH with motor := { wH.motor with candidate := some (wH.now + 5) }, driveCfg := { wH.driveCfg with rejectMs := 0 }
     }, _, rfl, (by decide)⟩,
   ⟨wL, _, rfl, (by decide)⟩,
   ⟨{ wL with drive := { wL.drive with trigOn := true } }, _, rfl, (by decide)⟩,
   ⟨{ wL with drive := { wL.drive with armed := true }, conds := wI.conds }, _, rfl, (by decide)⟩⟩

/-- Witnesses of the hypotheses of DriveStarts, clause by clause. -/
theorem witness_DriveStarts :
    (∃ (s : State) (d : Nat), s.motor.candidate = some d ∧ s.role = .handle ∧ s.power.state = .active ∧
      s.power.standbyPending = false ∧ s.power.waiting = [] ∧ s.pins.trig = true ∧ s.driveCfg.mode = .hold ∧
      s.drive.armed = true ∧ s.drive.state = .stopped ∧ driveInhibited s = false ∧ s.port.silent = false ∧ NoPortAlone
      s ∧ ReportsFit s) ∧
    (∃ (s : State) (d : Nat), s.motor.candidate = some d ∧ s.role = .handle ∧ s.power.state = .active ∧
      s.power.standbyPending = false ∧ s.power.waiting = [] ∧ s.pins.trig = true ∧ s.driveCfg.mode = .hold ∧
      s.drive.armed = true ∧ s.drive.state = .stopped ∧ driveInhibited s = true ∧ ReportsFit s) ∧
    (∃ (s : State) (d : Nat), s.motor.candidate = some d ∧ s.role = .handle ∧ s.power.state = .active ∧
      s.power.standbyPending = false ∧ s.power.waiting = [] ∧ s.pins.trig = true ∧ s.driveCfg.mode = .hold ∧
      s.drive.armed = true ∧ s.drive.state = .coasting) ∧
    (∃ (s : State) (mode : Byte), Listening s ∧ s.role = .handle ∧ (mode = 0 ∨ mode = 1) ∧ s.link.docked = false ∧
      driveInhibited (received s) = false ∧ s.drive.state = .stopped ∧ s.drive.trigOn = true ∧ NoPortAlone s ∧
      ReportsFit s) ∧
    (∃ (s : State) (d : Nat), s.motor.candidate = some d ∧ s.role = .handle ∧ s.power.state = .active ∧
      s.power.standbyPending = false ∧ s.power.waiting = [] ∧ s.pins.trig = true ∧ s.driveCfg.mode = .latch ∧
      s.drive.trigOn = false ∧ s.drive.armed = true ∧ s.drive.state = .stopped ∧ driveInhibited s = false ∧
      s.port.silent = false ∧ NoPortAlone s ∧ ReportsFit s) ∧
    (∃ (s : State) (d : Nat), s.motor.candidate = some d ∧ s.role = .handle ∧ s.power.state = .active ∧
      s.power.standbyPending = false ∧ s.power.waiting = [] ∧ s.pins.trig = true ∧ s.driveCfg.mode = .latch ∧
      s.drive.trigOn = false ∧ s.drive.armed = true ∧ s.drive.state = .coasting) :=
  ⟨⟨{ wH with
    motor := { wH.motor with candidate := some (wH.now + 5) }, pins := { wH.pins with trig := true },
    drive := { wH.drive with armed := true } }, _, rfl, (by decide)⟩,
   ⟨{ wI with
     motor := { wI.motor with candidate := some (wI.now + 5) }, pins := { wI.pins with trig := true },
     drive := { wI.drive with armed := true } }, _, rfl, (by decide)⟩,
   ⟨{ wH with
     motor := { wH.motor with candidate := some (wH.now + 5) }, pins := { wH.pins with trig := true },
     drive := { wH.drive with armed := true, state := .coasting } }, _, rfl, (by decide)⟩,
   ⟨{ wH with drive := { wH.drive with trigOn := true } }, 0, (by decide)⟩,
   ⟨{ wL with drive := { wL.drive with armed := true } }, _, rfl, (by decide)⟩,
   ⟨{ wL with drive := { wL.drive with armed := true, state := .coasting } }, _, rfl, (by decide)⟩⟩

/-- Witnesses of the hypotheses of PumpSettleDecides, clause by clause. -/
theorem witness_PumpSettleDecides :
    (∃ (s : State) (hall : BitVec 3) (d : Nat), s.motor.settle = some d ∧ hallValid hall = true) ∧
    (∃ (s : State) (d : Nat), s.motor.settle = some d ∧ s.role = .handle ∧ s.power.standbyPending = false ∧ ReportsFit
      s ∧ condActive s .gateSupplyFault = false) ∧
    (∃ (s : State) (hall : BitVec 3) (d : Nat), s.motor.settle = some d ∧ s.role = .handle ∧ s.power.standbyPending =
      false ∧ ReportsFit s ∧ condActive s .hallFault = false ∧ hallValid hall = false) :=
  ⟨⟨{ wH with motor := { wH.motor with settle := some (wH.now + 5) }, drive := { wH.drive with state := .priming } },
    0b100, _, rfl, (by decide)⟩,
   ⟨{ wH with motor := { wH.motor with settle := some (wH.now + 5) }, drive := { wH.drive with state := .priming } },
     _, rfl, (by decide)⟩,
   ⟨{ wH with motor := { wH.motor with settle := some (wH.now + 5) }, drive := { wH.drive with state := .priming } },
     0, _, rfl, (by decide)⟩⟩

/-- Witnesses of the hypotheses of LimitsStopTheDrive, clause by clause. -/
theorem witness_LimitsStopTheDrive :
    (∃ (s : State) (d : Nat), s.motor.spinUp = some d ∧ s.role = .handle ∧ s.power.standbyPending = false ∧ ReportsFit
      s ∧ s.drive.state.switching = true ∧ condActive s .motorStall = false) ∧
    (∃ s : State, s.role = .handle ∧ s.power.standbyPending = false ∧ ReportsFit s ∧ s.drive.state = .regulate ∧
      s.drive.nMeas < 5000 ∧ 49 ≤ s.drive.lowSpeed ∧ condActive s .motorStall = false) ∧
    (∃ s : State, s.role = .handle ∧ s.power.standbyPending = false ∧ ReportsFit s ∧ s.drive.state.switching = true ∧
      s.motor.tripped = false ∧ 15 ≤ s.drive.overcurrent ∧ condActive s .driveOvercurrent = false) ∧
    (∃ s : State, s.motor.tripped = true) ∧
    (∃ s : State, s.role = .handle ∧ s.power.standbyPending = false ∧ ReportsFit s ∧ s.drive.state.switching = true ∧
      s.motor.tripped = false ∧ 15 ≤ s.drive.overcurrent ∧ condActive s .driveOvercurrent = false) ∧
    (∃ s : State, s.role = .handle ∧ s.power.standbyPending = false ∧ ReportsFit s ∧ s.drive.state.switching = true ∧
      condActive s .gateSupplyFault = false) ∧
    (∃ s : State, s.role = .handle ∧ s.power.standbyPending = false ∧ ReportsFit s ∧ s.drive.state.switching = true ∧
      s.drive.pCeil < 30 ∧ 49 ≤ s.drive.derated ∧ s.pack.valid = true ∧ s.drive.limit = .cell ∧ condActive s
      .packExhausted = false) ∧
    (∃ s : State, s.role = .handle ∧ ReportsFit s ∧ s.drive.state.switching = true ∧ s.drive.pCeil < 30 ∧ 49 ≤
      s.drive.derated ∧ s.pack.valid = true ∧ s.drive.limit ≠ .cell) ∧
    (∃ s : State, s.role = .handle ∧ ReportsFit s ∧ s.drive.state.switching = true ∧ driveFresh s = false ∧ 24 ≤
      s.drive.stale) :=
  ⟨⟨{ wH with
    drive := { wH.drive with state := .regulate, duty := 300 }, motor := { wH.motor with spinUp := some wH.now } }, _,
    rfl, (by decide)⟩,
   ⟨{ wH with drive := { wH.drive with state := .regulate, duty := 300, nMeas := 4999, lowSpeed := 49 } },
     (by decide)⟩,
   ⟨{ wH with drive := { wH.drive with state := .regulate, duty := 300, overcurrent := 15 } }, (by decide)⟩,
   ⟨{ wH with motor := { wH.motor with tripped := true } }, rfl⟩,
   ⟨{ wH with drive := { wH.drive with state := .regulate, duty := 300, overcurrent := 15 } }, (by decide)⟩,
   ⟨{ wH with drive := { wH.drive with state := .regulate, duty := 300 } }, (by decide)⟩,
   ⟨{ wH with
     drive := { wH.drive with state := .regulate, duty := 300, pCeil := 29, derated := 49, limit := .cell },
     pack := { wH.pack with valid := true } }, (by decide)⟩,
   ⟨{ wH with
     drive := { wH.drive with state := .regulate, duty := 300, pCeil := 29, derated := 49 },
     pack := { wH.pack with valid := true } }, (by decide)⟩,
   ⟨{ wH with drive := { wH.drive with state := .regulate, duty := 300, stale := 24 }, now := wH.now + 20000000 },
     (by decide)⟩⟩

/-- Witnesses of the hypotheses of HallEdgesCommutateAndMeasure, clause by clause. -/
theorem witness_HallEdgesCommutateAndMeasure :
    (∃ s : State, s.fastUp = false) ∧
    (∃ (s : State) (code : BitVec 3), s.fastUp = true ∧ hallValid code = true ∧ s.motor.refStamp = none ∧
      (s.drive.state ≠ .stopped ∨ condActive s .hallFault = false)) ∧
    (∃ (s : State) (code : BitVec 3) (r : BitVec 32), s.motor.refStamp = some r ∧ s.fastUp = true ∧ hallValid code = true ∧
      normalEdge s.pins.hall code = false ∧ (s.drive.state ≠ .stopped ∨ condActive s .hallFault = false)) ∧
    (∃ (s : State) (code counts : BitVec 3) (r : BitVec 32),
      let ring := (s.motor.ring ++ [(s.edgeCount counts - r).toNat]).drop (s.motor.ring.length - 5)
      let turn := if ring.length = 6 then ring.sum else ring.sum * 6 / ring.length
      s.motor.refStamp = some r ∧ s.fastUp = true ∧ hallStep s.pins.hall ≠ none ∧
      hallStep code = (hallStep s.pins.hall).map (fun n => n + 1) ∧ s.motor.ring.length ≤ 6 ∧ 0 < turn ∧
      (s.drive.state ≠ .stopped ∨ condActive s .hallFault = false) ∧ ReportsFit s) ∧
    (∃ (s : State) (code : BitVec 3), s.fastUp = true ∧ s.role = .handle ∧ s.power.standbyPending = false ∧ ReportsFit
      s ∧ s.drive.state.switching = true ∧ hallValid code = false ∧ condActive s .hallFault = false) ∧
    (∃ (s : State) (code : BitVec 3), s.fastUp = true ∧ Calm s ∧ ReportsFit s ∧ hallValid code = false ∧ condActive s
      .hallFault = false) ∧
    (∃ (s : State) (code : BitVec 3), s.fastUp = true ∧ s.role = .handle ∧ s.power.standbyPending = false ∧ ReportsFit s
      ∧ s.drive.state = .priming ∧ hallValid code = false ∧ condActive s .hallFault = false) ∧
    (∃ (s : State) (code : BitVec 3), s.fastUp = true ∧ s.role = .handle ∧ hallValid code = true ∧ s.motor.refStamp =
      none ∧ s.drive.state = .stopped ∧ condActive s .hallFault = true ∧ ReportsFit s) :=
  ⟨⟨{ wH with power := { wH.power with fast := .off } }, (by decide)⟩,
   ⟨{ wH with motor := { wH.motor with ring := [] } }, 0b100, (by decide)⟩,
   ⟨{ wH with motor := { wH.motor with refStamp := some 100, ring := [] } }, 0b101, _, rfl,
     (by decide)⟩,
   ⟨{ wH with
     pins := { wH.pins with
       hall := match (0b100 : BitVec 3).toNat with | 1 => 3 | 2 => 6 | 3 => 2 | 4 => 5 | 5 => 1 | _ => 4 },
     motor := { wH.motor with refStamp := some 100, ring := [] } }, 0b100, 5, _, rfl,
     (by dsimp only; decide)⟩,
   ⟨{ wH with drive := { wH.drive with state := .regulate, duty := 300 } }, 0, (by decide)⟩,
   ⟨{ wH with drive := { wH.drive with state := .coasting } }, 0, (by decide)⟩,
   ⟨{ wH with drive := { wH.drive with state := .priming } }, 0, (by decide)⟩,
   ⟨{ wH with conds := [{ kind := .hallFault, active := true, first := 1, last := 2, occurrences := 3, detail := none }]
     }, 0b100, (by decide)⟩⟩

/-- Witnesses of the hypotheses of EdgeTimeoutEndsTheMeasurement, clause by clause. -/
theorem witness_EdgeTimeoutEndsTheMeasurement :
    (∃ s : State, s.fastUp = true) ∧
    (∃ (s : State) (d : Nat), s.motor.edge = some d ∧ s.fastUp = true ∧ ReportsFit s) ∧
    (∃ (s : State) (code : BitVec 3), s.fastUp = true ∧ hallValid code = true ∧ s.motor.refStamp = none) ∧
    (∃ (s : State) (code : BitVec 3) (r : BitVec 32), s.motor.refStamp = some r ∧ s.fastUp = true ∧ hallValid code =
      true ∧ normalEdge s.pins.hall code = true ∧ s.motor.ring = []) :=
  ⟨⟨wH, (by decide)⟩,
   ⟨{ wH with motor := { wH.motor with edge := some (wH.now + 7) } }, _, rfl, (by decide)⟩,
   ⟨{ wH with motor := { wH.motor with ring := [] } }, 0b100, (by decide)⟩,
   ⟨{ wH with
     pins := { wH.pins with
       hall := match (0b100 : BitVec 3).toNat with | 1 => 3 | 2 => 6 | 3 => 2 | 4 => 5 | 5 => 1 | _ => 4 },
     motor := { wH.motor with refStamp := some 100 } }, 0b100, _, rfl, (by decide)⟩⟩

/-- Witnesses of the hypotheses of PwmPeriodsAndTrips, clause by clause. -/
theorem witness_PwmPeriodsAndTrips :
    (∃ s : State, s.drive.state.switching = true ∧ s.motor.tripped = false ∧ s.drive.overcurrent + 1 < 16) ∧
    (∃ s : State, (s.drive.state.switching = false ∨ s.motor.tripped = true)) ∧
    (∃ (s : State) (d : Nat), s.motor.pwmNext = some d ∧ s.drive.state.switching = true) ∧
    (∃ (s : State) (d : Nat), s.motor.pwmNext = some d ∧ s.drive.state.switching = false) :=
  ⟨⟨{ wH with drive := { wH.drive with state := .regulate, duty := 300, overcurrent := 14 } }, (by decide)⟩,
   ⟨wH, (by decide)⟩,
   ⟨{ wH with
     drive := { wH.drive with state := .regulate, duty := 300 }, motor := { wH.motor with pwmNext := some wH.now } },
     _, rfl, (by decide)⟩,
   ⟨{ wH with motor := { wH.motor with pwmNext := some wH.now } }, _, rfl, (by decide)⟩⟩

/-- Witnesses of the hypotheses of CoastEndsAndDecidesThePendingStart, clause by clause. -/
theorem witness_CoastEndsAndDecidesThePendingStart :
    (∃ (s : State) (d : Nat), s.motor.coast = some d ∧ s.drive.state = .coasting ∧ s.drive.pendingStart = false ∧
      (s.conds.map (·.kind)).Nodup ∧ ReportsFit s ∧ NoPortAlone s) ∧
    (∃ (s : State) (d : Nat), s.motor.period = some d ∧ s.drive.state = .coasting ∧ s.drive.pendingStart = false ∧
      (s.conds.map (·.kind)).Nodup ∧ s.drive.nMeas = 0 ∧ ReportsFit s ∧ NoPortAlone s) ∧
    (∃ (s : State) (d : Nat), s.motor.period = some d ∧ s.drive.state = .coasting ∧ s.drive.nMeas ≠ 0) ∧
    (∃ (s : State) (d : Nat), s.motor.coast = some d ∧ s.drive.state = .coasting ∧ s.drive.pendingStart = true ∧ s.role
      = .handle ∧ s.drive.armed = true ∧ s.drive.trigOn = true ∧ driveInhibited s = false ∧ s.port.silent = false ∧ ReportsFit s ∧ NoPortAlone s) ∧
    (∃ (s : State) (d : Nat), s.motor.coast = some d ∧ s.drive.state = .coasting ∧ s.drive.pendingStart = true ∧ s.role
      = .handle ∧ s.drive.armed = true ∧ s.drive.trigOn = true ∧ driveInhibited s = true ∧ (s.conds.map
      (·.kind)).Nodup ∧ ReportsFit s ∧ NoPortAlone s) ∧
    (∃ (s : State) (d : Nat), s.motor.coast = some d ∧ s.drive.state = .coasting ∧ s.drive.pendingStart = true ∧ s.role
      = .handle ∧ (s.drive.armed = false ∨ s.drive.trigOn = false) ∧ ReportsFit s ∧ NoPortAlone s) ∧
    (∃ (s : State) (d : Nat), s.motor.coast = some d ∧ s.drive.state = .coasting ∧ s.drive.pendingStart = true ∧ s.role
      = .dock ∧ s.cycle.state = .starting ∧ driveInhibited s = false ∧ s.port.silent = false ∧ ReportsFit s ∧
      NoPortAlone s) ∧
    (∃ (s : State) (d : Nat), s.motor.coast = some d ∧ s.drive.state = .coasting ∧ s.drive.pendingStart = true ∧ s.role
      = .dock ∧ s.cycle.state = .starting ∧ driveInhibited s = true ∧ (s.conds.map (·.kind)).Nodup ∧ ReportsFit s ∧
      NoPortAlone s) ∧
    (∃ (s : State) (d : Nat), s.motor.coast = some d ∧ s.drive.state = .coasting ∧ s.drive.pendingStart = true ∧ s.role
      = .dock ∧ s.cycle.state ≠ .starting ∧ ReportsFit s ∧ NoPortAlone s) :=
  ⟨⟨{ wH with
    drive := { wH.drive with state := .coasting },
    motor := { wH.motor with coast := some (wH.now + 3), period := some (wH.now + 1) } }, _, rfl, (by decide)⟩,
   ⟨{ wH with
     drive := { wH.drive with state := .coasting },
     motor := { wH.motor with coast := some (wH.now + 3), period := some (wH.now + 1) } }, _, rfl, (by decide)⟩,
   ⟨{ wH with
     drive := { wH.drive with state := .coasting, nMeas := 7 },
     motor := { wH.motor with coast := some (wH.now + 3), period := some (wH.now + 1) } }, _, rfl, (by decide)⟩,
   ⟨{ wH with
     drive := { wH.drive with state := .coasting, pendingStart := true, armed := true, trigOn := true },
     motor := { wH.motor with coast := some (wH.now + 3), period := some (wH.now + 1) } }, _, rfl, (by decide)⟩,
   ⟨{ wI with
     drive := { wI.drive with state := .coasting, pendingStart := true, armed := true, trigOn := true },
     motor := { wI.motor with coast := some (wI.now + 3), period := some (wI.now + 1) } }, _, rfl, (by decide)⟩,
   ⟨{ wH with
     drive := { wH.drive with state := .coasting, pendingStart := true },
     motor := { wH.motor with coast := some (wH.now + 3), period := some (wH.now + 1) } }, _, rfl, (by decide)⟩,
   ⟨{ wD with
     drive := { wD.drive with state := .coasting, pendingStart := true },
     motor := { wD.motor with coast := some (wD.now + 3), period := some (wD.now + 1) },
     cycle := { wD.cycle with state := .starting, duration := 20 } }, _, rfl, (by decide)⟩,
   ⟨{ wD with
     drive := { wD.drive with state := .coasting, pendingStart := true },
     motor := { wD.motor with coast := some (wD.now + 3), period := some (wD.now + 1) },
     cycle := { wD.cycle with state := .starting, duration := 20 },
     conds := wI.conds }, _, rfl, (by decide)⟩,
   ⟨{ wD with
     drive := { wD.drive with state := .coasting, pendingStart := true },
     motor := { wD.motor with coast := some (wD.now + 3), period := some (wD.now + 1) },
     cycle := { wD.cycle with state := .aborted, duration := 20 } }, _, rfl, (by decide)⟩⟩

/-- Witnesses of the hypotheses of ControlPeriodRegulates, clause by clause. -/
theorem witness_ControlPeriodRegulates :
    ∃ (s : State) (d : Nat), s.motor.period = some d ∧ s.drive.state.switching = true ∧ s.drive.derated + 1 < 50 ∧
    s.drive.stale + 1 < 25 ∧ (s.drive.state = .spinUp ∨ 5000 ≤ s.drive.nMeas ∨ s.drive.lowSpeed + 1 < 50) ∧
    (s.drive.suspect + 1 < 150 ∨ s.power.standbyPending = false) :=
  ⟨{ wC with
    drive := { wC.drive with
      state := .spinUp, duty := 300, nEff := wC.drive.nEff + (500 : Nat), nMeas := 60000 - (5000 : Nat) },
    motor := { wC.motor with period := some (wC.now + (2) * 9000000) } }, _, rfl, (by decide)⟩

/-- Witnesses of the hypotheses of ClogLimitsRaiseAndEnd, clause by clause. -/
theorem witness_ClogLimitsRaiseAndEnd :
    (∃ s : State,
      let n := (levelUsed s)
      let r := min 1500 ((s.drive.nMeas * 1000).tdiv n.speed)
      let pExp := (n.pRef * (r * r * r)).tdiv 1000000000
      s.drive.state = .regulate ∧ driveFresh s = true ∧ s.drive.nEff = s.drive.nTgt ∧ n.speed.tdiv 2 ≤ s.drive.nMeas ∧
      s.power.standbyPending = false ∧ ReportsFit s ∧ condActive s .clog = false ∧
      149 ≤ s.drive.suspect ∧ s.drive.pMeas * 1000 < pExp * n.clogRatio) ∧
    (∃ s : State,
      let n := (levelUsed s)
      let r := min 1500 ((s.drive.nMeas * 1000).tdiv n.speed)
      let pExp := (n.pRef * (r * r * r)).tdiv 1000000000
      s.drive.state = .regulate ∧ driveFresh s = true ∧ s.drive.nEff = s.drive.nTgt ∧ n.speed.tdiv 2 ≤ s.drive.nMeas ∧
      ReportsFit s ∧ condActive s .clog = true ∧ 149 ≤ s.drive.clear ∧
      pExp * (n.clogRatio + 100) ≤ s.drive.pMeas * 1000 ∧ 0 ≤ pExp) ∧
    (∃ s : State, s.drive.state ≠ .regulate) ∧
    (∃ s : State, s.drive.state = .regulate ∧ driveFresh s = false) ∧
    (∃ s : State, s.drive.nEff ≠ s.drive.nTgt) ∧
    (∃ s : State, s.drive.nMeas < ((levelUsed s).speed).tdiv 2) :=
  ⟨⟨{ wC with drive := { wC.drive with state := .regulate, duty := 300, suspect := 149, nMeas := 80000, pMeas := 10 } },
     (by dsimp only; decide)⟩,
   ⟨{ wC with
     conds := [{ kind := .clog, active := true, first := 1, last := 2, occurrences := 3, detail := none }],
     drive := { wC.drive with state := .regulate, duty := 300, clear := 149, nMeas := 80000, pMeas := 500 } },
     (by dsimp only; decide)⟩,
   ⟨wH, (by decide)⟩,
   ⟨{ wH with drive := { wH.drive with state := .regulate } }, (by decide)⟩,
   ⟨{ wC with drive := { wC.drive with state := .regulate, nTgt := 80000 } }, (by decide)⟩,
   ⟨{ wC with drive := { wC.drive with state := .regulate } }, (by decide)⟩⟩

/-- Witnesses of the hypotheses of DriveSettingsAreStored, clause by clause. -/
theorem witness_DriveSettingsAreStored :
    (∃ (s : State) (m : Byte), Listening s ∧ 2 ≤ m.toNat ∧ m.toNat ≤ 254) ∧
    (∃ (s : State) (r m th : Byte) (p v f : BitVec 16),
      let cfg := storedDriveCfg s.driveCfg r m th p v f
      Listening s ∧ (m.toNat ≤ 1 ∨ m = 0xFF) ∧ (s.role = .dock ∨ cfg.mode = s.driveCfg.mode)) ∧
    (∃ (s : State) (r m th : Byte) (p v f : BitVec 16),
      let cfg := storedDriveCfg s.driveCfg r m th p v f
      Listening s ∧ s.role = .handle ∧ m.toNat ≤ 1 ∧ cfg.mode ≠ s.driveCfg.mode ∧
      (s.drive.state.running = false ∨ s.drive.trigOn = false ∨ s.drive.trigPressed = true)) ∧
    (∃ (s : State) (r m th : Byte) (p v f : BitVec 16),
      let cfg := storedDriveCfg s.driveCfg r m th p v f
      Listening s ∧ s.role = .handle ∧ m.toNat ≤ 1 ∧ cfg.mode ≠ s.driveCfg.mode ∧ s.drive.state.running = true ∧
      s.drive.trigOn = true ∧ s.drive.trigPressed = false ∧ ReportsFit s) ∧
    (∃ (s : State) (k : Byte), Listening s ∧ (k.toNat < 1 ∨ 4 < k.toNat)) ∧
    (∃ (s : State) (k : Byte), Listening s ∧ 1 ≤ k.toNat ∧ k.toNat ≤ 4) :=
  ⟨⟨wH, 2, (by decide)⟩,
   ⟨wH, 4, 0xFF, 20, 0xFFFF, 3000, 0xFFFF, (by dsimp only; decide)⟩,
   ⟨wH, 0xFF, 1, 0xFF, 0xFFFF, 0xFFFF, 0xFFFF, (by dsimp only; decide)⟩,
   ⟨{ wL with drive := { wL.drive with state := .regulate, duty := 300, trigOn := true } }, 0xFF, 0, 0xFF, 0xFFFF,
     0xFFFF, 0xFFFF, (by dsimp only; decide)⟩,
   ⟨wH, 0xFF, (by decide)⟩,
   ⟨wH, 1, (by decide)⟩⟩

/-- Witnesses of the hypotheses of RunIsTakenOrRefused, clause by clause. -/
theorem witness_RunIsTakenOrRefused :
    (∃ (s : State) (mode : Byte), Listening s ∧ s.role = .handle ∧ 2 ≤ mode.toNat) ∧
    (∃ (s : State) (mode : Byte), Listening s ∧ s.role = .handle ∧ mode.toNat ≤ 1 ∧ s.link.docked = true) ∧
    (∃ (s : State) (mode : Byte) (i : CondRec), firstInhibit (received s) = some i ∧ Listening s ∧ s.role = .handle ∧
      mode.toNat ≤ 1 ∧ s.link.docked = false) ∧
    (∃ (s : State) (mode : Byte), Listening s ∧ s.role = .handle ∧ (mode = 0 ∨ mode = 1) ∧ s.link.docked = false ∧
      driveInhibited (received s) = false ∧ s.drive.state = .stopped ∧ s.drive.trigOn = false) ∧
    (∃ (s : State) (mode : Byte), Listening s ∧ s.role = .handle ∧ (mode = 0 ∨ mode = 1) ∧ s.link.docked = false ∧
      driveInhibited (received s) = false ∧ s.drive.state = .coasting) ∧
    (∃ (s : State) (mode : Byte), Listening s ∧ s.role = .handle ∧ (mode = 0 ∨ mode = 1) ∧ s.link.docked = false ∧
      driveInhibited (received s) = false ∧ s.drive.state.running = true ∧ ReportsFit s) :=
  ⟨⟨wH, 0xFF, (by decide)⟩,
   ⟨{ wH with link := { wH.link with docked := true } }, 0, (by decide)⟩,
   ⟨wI, 0, _, rfl, (by decide)⟩,
   ⟨wH, 0, (by decide)⟩,
   ⟨{ wH with drive := { wH.drive with state := .coasting } }, 0, (by decide)⟩,
   ⟨{ wH with drive := { wH.drive with state := .regulate, duty := 300 } }, 0, (by decide)⟩⟩

/-- Witnesses of the hypotheses of StopRequestsStopTheDrive, clause by clause. -/
theorem witness_StopRequestsStopTheDrive :
    (∃ s : State, Listening s ∧ s.role = .handle ∧ s.drive.state.running = true ∧ ReportsFit s) ∧
    (∃ s : State, Listening s ∧ s.role = .handle ∧ s.drive.state.running = false) ∧
    (∃ s : State, Listening s ∧ s.role = .handle ∧ s.drive.state.running = true ∧ ReportsFit s) ∧
    (∃ s : State, Listening s ∧ s.drive.state.running = false) ∧
    (∃ s : State, Listening s ∧ s.role = .dock ∧ s.power.standbyPending = false ∧ s.drive.state.running = true ∧
      ReportsFit s) ∧
    (∃ (s : State) (d : Nat), s.motor.candidate = some d ∧ s.power.state = .active ∧ s.role = .handle ∧ s.power.waiting
      = [] ∧ s.pins.trig = false ∧ s.driveCfg.mode = .hold ∧ s.drive.state.running = true ∧ ReportsFit s) ∧
    (∃ (s : State) (d : Nat), s.motor.candidate = some d ∧ s.power.state = .active ∧ s.power.standbyPending = false ∧
      s.role = .handle ∧ s.power.waiting = [] ∧ s.pins.trig = true ∧ s.driveCfg.mode = .latch ∧ s.drive.trigOn = true ∧
      s.drive.state.running = true ∧ ReportsFit s) :=
  ⟨⟨{ wH with drive := { wH.drive with state := .regulate, duty := 300 } }, (by decide)⟩,
   ⟨{ wH with drive := { wH.drive with state := .coasting } }, (by decide)⟩,
   ⟨{ wH with drive := { wH.drive with state := .regulate, duty := 300 } }, (by decide)⟩,
   ⟨{ wH with drive := { wH.drive with state := .coasting } }, (by decide)⟩,
   ⟨{ wH with role := .dock, drive := { wH.drive with state := .regulate, duty := 300 } }, (by decide)⟩,
   ⟨{ wH with
     motor := { wH.motor with candidate := some (wH.now + 5) },
     drive := { wH.drive with state := .regulate, duty := 300 } }, _, rfl, (by decide)⟩,
   ⟨{ wL with drive := { wL.drive with state := .regulate, duty := 300, trigOn := true } }, _, rfl, (by decide)⟩⟩

/-- Witnesses of the hypotheses of SweepTimerStartsASweep, clause by clause. -/
theorem witness_SweepTimerStartsASweep :
    (∃ (s : State) (d : Nat), s.monitor.next = some d ∧ s.monitor.sweep.isSome = true) ∧
    (∃ (s : State) (d : Nat), s.monitor.next = some d ∧ s.monitor.sweep = none ∧ s.seq.queue = []) :=
  ⟨⟨{ wH with monitor := { wH.monitor with next := some (wH.now + 3), sweep := some [] } }, _, rfl, (by decide)⟩,
   ⟨{ wH with monitor := { wH.monitor with next := some (wH.now + 3) } }, _, rfl, (by decide)⟩⟩

/-- Witnesses of the hypotheses of SweepCompletionFillsTheRecord, clause by clause. -/
theorem witness_SweepCompletionFillsTheRecord :
    (∃ (s : State) (f : Conversion) (l : List Delivery), s.seq.inFlight = some f ∧ s.monitor.sweep = some l ∧ s.fastUp =
      true ∧ s.role = .handle ∧ f.set.pack = true ∧ l.length = 10 ∧ s.pack.valid = false ∧ s.session.phase = .none) ∧
    (∃ (s : State) (f : Conversion) (l : List Delivery), s.seq.inFlight = some f ∧ s.monitor.sweep = some l ∧ s.fastUp =
      true ∧ s.role = .handle ∧ f.set.pack = true ∧ l.length = 10 ∧ s.pack.valid = true ∧ s.session.phase = .none) ∧
    (∃ (s : State) (f : Conversion) (l : List Delivery), s.seq.inFlight = some f ∧ s.monitor.sweep = some l ∧ s.fastUp =
      true ∧ s.role = .dock ∧ f.set.pack = true ∧ l.length = 2) :=
  ⟨⟨wS, _, _, rfl, rfl, (by decide)⟩,
   ⟨{ wS with pack := { wS.pack with valid := true } }, _, _, rfl, rfl, (by decide)⟩,
   ⟨wB, _, _, rfl, rfl, (by decide)⟩⟩

/-- Witnesses of the hypotheses of PackLimitsRaiseAndEnd, clause by clause. -/
theorem witness_PackLimitsRaiseAndEnd :
    (∃ s : State, Calm s ∧ s.power.fast = .running ∧ ReportsFit s ∧ s.pack.valid = true ∧ condActive s .cellTapFault =
      false ∧ ((s.pack.cells.toList.sum - s.pack.packMv) < -300 ∨ 300 < (s.pack.cells.toList.sum - s.pack.packMv)) ∧ 2
      ≤ s.monitor.counts.mismatch) ∧
    (∃ s : State, s.role = .handle ∧ s.up = true ∧ s.power.fast = .running ∧ ReportsFit s ∧ s.pack.valid = true ∧
      condActive s .cellTapFault = true ∧ -300 ≤ (s.pack.cells.toList.sum - s.pack.packMv) ∧ (s.pack.cells.toList.sum
      - s.pack.packMv) ≤ 300 ∧ 2 ≤ s.monitor.counts.matched) ∧
    (∃ s : State, Calm s ∧ s.power.fast = .running ∧ ReportsFit s ∧ s.pack.valid = true ∧ condActive s .cellOvervolt =
      false ∧ 4250 ≤ s.pack.vmax ∧ 1 ≤ s.monitor.counts.cellOvervolt) ∧
    (∃ s : State, Calm s ∧ s.power.fast = .running ∧ ReportsFit s ∧ s.pack.valid = true ∧ condActive s .cellUndervolt
      = false ∧ s.pack.vmin ≤ 2800 ∧ 2 ≤ s.monitor.counts.cellUndervolt) ∧
    (∃ s : State, Calm s ∧ s.power.fast = .running ∧ ReportsFit s ∧ s.pack.valid = true ∧ condActive s .packOvertemp =
      false ∧ 720 ≤ s.pack.packT ∧ 1 ≤ s.monitor.counts.packOvertemp) ∧
    (∃ s : State, Calm s ∧ s.power.fast = .running ∧ ReportsFit s ∧ s.pack.valid = true ∧ condActive s .bridgeOvertemp
      = false ∧ 1000 ≤ s.pack.bridgeT ∧ 1 ≤ s.monitor.counts.bridgeOvertemp) ∧
    (∃ s : State, Calm s ∧ s.power.fast = .running ∧ ReportsFit s ∧ s.pack.valid = true ∧ condActive s .cellImbalance
      = false ∧ 300 ≤ s.pack.vmax - s.pack.vmin ∧ s.drive.state = .stopped ∧ -99 ≤ s.pack.packMa ∧ s.pack.packMa ≤ 99
      ∧ 2 ≤ s.monitor.counts.cellImbalance) ∧
    (∃ s : State, Calm s ∧ s.power.fast = .running ∧ ReportsFit s ∧ s.pack.valid = true ∧ condActive s
      .tempSensorFault = false ∧ (s.pack.packMark ≠ .none ∨ s.pack.bridgeMark ≠ .none)) ∧
    (∃ s : State, s.role = .handle ∧ s.up = true ∧ s.power.fast = .running ∧ ReportsFit s ∧ s.pack.valid = true ∧
      condActive s .tempSensorFault = true ∧ s.pack.packMark = .none ∧ s.pack.bridgeMark = .none ∧ 2 ≤
      s.monitor.counts.sensorEnd) ∧
    (∃ s : State, s.role = .dock ∧ s.up = true ∧ s.power.fast = .running ∧ s.supply.valid = true ∧ condActive s
      .busLow = false ∧ s.supply.busMv < 30000 ∧ 1 ≤ s.monitor.counts.busLow ∧ ReportsFit s) ∧
    (∃ (s : State) (f : Conversion) (l : List Delivery), s.seq.inFlight = some f ∧ s.monitor.sweep = some l ∧ s.fastUp =
      true ∧ s.role = .handle ∧ f.set.pack = true ∧ l.length = 10) ∧
    (∃ (s : State) (f : Conversion) (l : List Delivery), s.seq.inFlight = some f ∧ s.monitor.sweep = some l ∧ s.fastUp =
      true ∧ s.role = .dock ∧ f.set.pack = true ∧ l.length = 2) :=
  ⟨⟨{ wI with
    pack := { wI.pack with valid := true, packMv := 5 },
    monitor := { wI.monitor with
      counts := { wI.monitor.counts with
        mismatch := 2, matched := 2, cellOvervolt := 1, cellUndervolt := 2, packOvertemp := 1, bridgeOvertemp := 1,
        cellImbalance := 2, sensorEnd := 2, busLow := 1 } } }, (by decide)⟩,
   ⟨{ wH with
     conds := [{ kind := .cellTapFault, active := true, first := 1, last := 2, occurrences := 3, detail := none }],
     pack := { wH.pack with valid := true, packMv := wH.pack.cells.toList.sum + 300 },
     monitor := { wH.monitor with
       counts := { wH.monitor.counts with
         mismatch := 2, matched := 2, cellOvervolt := 1, cellUndervolt := 2, packOvertemp := 1, bridgeOvertemp := 1,
         cellImbalance := 2, sensorEnd := 2, busLow := 1 } } }, (by decide)⟩,
   ⟨{ wH with
     pack := { wH.pack with valid := true, vmax := 4250 },
     monitor := { wH.monitor with
       counts := { wH.monitor.counts with
         mismatch := 2, matched := 2, cellOvervolt := 1, cellUndervolt := 2, packOvertemp := 1, bridgeOvertemp := 1,
         cellImbalance := 2, sensorEnd := 2, busLow := 1 } } }, (by decide)⟩,
   ⟨{ wH with
     pack := { wH.pack with valid := true, vmin := 2800 },
     monitor := { wH.monitor with
       counts := { wH.monitor.counts with
         mismatch := 2, matched := 2, cellOvervolt := 1, cellUndervolt := 2, packOvertemp := 1, bridgeOvertemp := 1,
         cellImbalance := 2, sensorEnd := 2, busLow := 1 } } }, (by decide)⟩,
   ⟨{ wH with
     pack := { wH.pack with valid := true, packT := 720 },
     monitor := { wH.monitor with
       counts := { wH.monitor.counts with
         mismatch := 2, matched := 2, cellOvervolt := 1, cellUndervolt := 2, packOvertemp := 1, bridgeOvertemp := 1,
         cellImbalance := 2, sensorEnd := 2, busLow := 1 } } }, (by decide)⟩,
   ⟨{ wH with
     pack := { wH.pack with valid := true, bridgeT := 1000 },
     monitor := { wH.monitor with
       counts := { wH.monitor.counts with
         mismatch := 2, matched := 2, cellOvervolt := 1, cellUndervolt := 2, packOvertemp := 1, bridgeOvertemp := 1,
         cellImbalance := 2, sensorEnd := 2, busLow := 1 } } }, (by decide)⟩,
   ⟨{ wH with
     pack := { wH.pack with valid := true, vmax := 3800, vmin := 3500, packMa := 99 },
     monitor := { wH.monitor with
       counts := { wH.monitor.counts with
         mismatch := 2, matched := 2, cellOvervolt := 1, cellUndervolt := 2, packOvertemp := 1, bridgeOvertemp := 1,
         cellImbalance := 2, sensorEnd := 2, busLow := 1 } } }, (by decide)⟩,
   ⟨{ wH with
     pack := { wH.pack with valid := true, packMark := .none, bridgeMark := .openCircuit },
     monitor := { wH.monitor with
       counts := { wH.monitor.counts with
         mismatch := 2, matched := 2, cellOvervolt := 1, cellUndervolt := 2, packOvertemp := 1, bridgeOvertemp := 1,
         cellImbalance := 2, sensorEnd := 2, busLow := 1 } } }, (by decide)⟩,
   ⟨{ wH with
     conds := [{ kind := .tempSensorFault, active := true, first := 1, last := 2, occurrences := 3, detail := none }],
     pack := { wH.pack with valid := true, packMark := .none, bridgeMark := .none },
     monitor := { wH.monitor with
       counts := { wH.monitor.counts with
         mismatch := 2, matched := 2, cellOvervolt := 1, cellUndervolt := 2, packOvertemp := 1, bridgeOvertemp := 1,
         cellImbalance := 2, sensorEnd := 2, busLow := 1 } } }, (by decide)⟩,
   ⟨{ wH with
     role := .dock, supply := { wH.supply with valid := true, busMv := 29999 },
     pack := { wH.pack with valid := true },
     monitor := { wH.monitor with
       counts := { wH.monitor.counts with
         mismatch := 2, matched := 2, cellOvervolt := 1, cellUndervolt := 2, packOvertemp := 1, bridgeOvertemp := 1,
         cellImbalance := 2, sensorEnd := 2, busLow := 1 } } }, (by decide)⟩,
   ⟨wS, _, _, rfl, rfl, (by decide)⟩,
   ⟨wB, _, _, rfl, rfl, (by decide)⟩⟩

/-- Witnesses of the hypotheses of RaiseStopsTheDriveAndSuspendsTheCharge, clause by clause. -/
theorem witness_RaiseStopsTheDriveAndSuspendsTheCharge :
    ∃ s : State, s.role = .handle ∧ s.power.state = .active ∧ s.power.fast = .running ∧
    s.power.standbyPending = false ∧ s.pack.valid = true ∧ condActive s .cellTapFault = false ∧
    ((s.pack.cells.toList.sum - s.pack.packMv) < -300 ∨ 300 < (s.pack.cells.toList.sum - s.pack.packMv)) ∧
    2 ≤ s.monitor.counts.mismatch :=
  ⟨{ wI with
    pack := { wI.pack with valid := true, packMv := 5 },
    monitor := { wI.monitor with counts := { wI.monitor.counts with mismatch := 2 } } }, (by decide)⟩

/-- Witnesses of the hypotheses of ChargeSettingsAndHalt, clause by clause. -/
theorem witness_ChargeSettingsAndHalt :
    (∃ s : State, Listening s ∧ s.role = .handle) ∧
    (∃ s : State, Listening s ∧ s.role = .handle) ∧
    (∃ s : State, Listening s ∧ s.role = .handle ∧ (s.conds.map (·.kind)).Nodup) ∧
    (∃ s : State, Listening s ∧ s.role = .dock) :=
  ⟨⟨wH, (by decide)⟩,
   ⟨wH, (by decide)⟩,
   ⟨wH, (by decide)⟩,
   ⟨{ wH with role := .dock }, (by decide)⟩⟩

/-- Witnesses of the hypotheses of ChargeTimersMoveThePhase, clause by clause. -/
theorem witness_ChargeTimersMoveThePhase :
    (∃ (s : State) (d : Nat), s.session.precharge = some d ∧ s.role = .handle ∧ s.power.standbyPending = false ∧
      ReportsFit s ∧ condActive s .chargeFailed = false ∧ NoPortAlone s) ∧
    (∃ (s : State) (d : Nat), s.session.limit = some d ∧ s.role = .handle ∧ s.power.standbyPending = false ∧ ReportsFit
      s ∧ condActive s .chargeFailed = false ∧ NoPortAlone s) ∧
    (∃ (s : State) (d : Nat), s.session.topBalance = some d ∧ ReportsFit s ∧ NoPortAlone s) ∧
    (∃ s : State, s.session.phase = .constVoltage ∧ s.session.dock.status ≠ .limited ∧ -150 ≤ s.pack.packMa ∧ 60000 ≤
      s.session.termination + s.age s.pack.time ∧ s.pack.vmax - s.pack.vmin ≤ 20 ∧ ReportsFit s ∧ NoPortAlone s) ∧
    (∃ s : State, s.session.phase = .constVoltage ∧ s.session.dock.status ≠ .limited ∧ -150 ≤ s.pack.packMa ∧ 60000 ≤
      s.session.termination + s.age s.pack.time ∧ 20 < s.pack.vmax - s.pack.vmin ∧ ReportsFit s ∧ NoPortAlone s) ∧
    (∃ (s : State) (d : Nat), s.session.dockTimer = some d ∧ s.session.phase.charging = true ∧ ReportsFit s ∧
      NoPortAlone s) ∧
    (∃ (s : State) (d : Nat), s.session.restart = some d ∧ s.link.docked = true ∧ s.link.state = .linked ∧
      s.session.phase = .none ∧ ReportsFit s ∧ NoPortAlone s) ∧
    (∃ (s : State) (d : Nat), s.session.restart = some d ∧ (s.link.docked = false ∨ s.link.state ≠ .linked)) :=
  ⟨⟨{ wH with
    session := { wH.session with precharge := some wH.now },
    conds := [] }, _, rfl, (by decide)⟩,
   ⟨{ wH with
     session := { wH.session with limit := some wH.now },
     conds := [] }, _, rfl, (by decide)⟩,
   ⟨{ wH with session := { wH.session with topBalance := some wH.now, phase := .topBalance } }, _, rfl, (by decide)⟩,
   ⟨{ wH with
     session := { wH.session with
       phase := .constVoltage, termination := 59990, dock := { wH.session.dock with status := .on } },
     pack := { wH.pack with packMa := -150, vmin := 4180, vmax := 4200, time := wH.partTime - 10 } }, (by decide)⟩,
   ⟨{ wH with
     session := { wH.session with
       phase := .constVoltage, termination := 59990, dock := { wH.session.dock with status := .on } },
     pack := { wH.pack with packMa := -150, vmin := 4180, vmax := 4201, time := wH.partTime - 10 } }, (by decide)⟩,
   ⟨{ wH with session := { wH.session with dockTimer := some wH.now, phase := .constCurrent } }, _, rfl, (by decide)⟩,
   ⟨{ wH with
     session := { wH.session with restart := some wH.now },
     link := { wH.link with docked := true, state := .linked } }, _, rfl, (by decide)⟩,
   ⟨{ wH with
     session := { wH.session with restart := some wH.now }, link := { wH.link with docked := true, state := .fault } },
     _, rfl, (by decide)⟩⟩

/-- Witnesses of the hypotheses of PhaseDecisionsOfASweep, clause by clause. -/
theorem witness_PhaseDecisionsOfASweep :
    (∃ s : State, s.session.phase = .qualify ∧ (chargeInhibited s = true ∨ s.link.state ≠ .linked)) ∧
    (∃ s : State, s.session.phase = .qualify ∧ chargeInhibited s = false ∧ s.link.state = .linked ∧ (s.drive.state ≠
      .stopped ∨ s.dockCfg.chargingEnabled = false)) ∧
    (∃ s : State, s.session.phase = .qualify ∧ chargeInhibited s = false ∧ s.link.state = .linked ∧ s.drive.state =
      .stopped ∧ s.dockCfg.chargingEnabled = true) ∧
    (∃ s : State, s.session.phase = .precharge) ∧
    (∃ s : State, s.session.phase = .constCurrent) ∧
    (∃ s : State, s.session.phase = .constVoltage) ∧
    (∃ s : State, s.session.phase = .topBalance) ∧
    (∃ s : State, s.session.phase = .done) ∧
    (∃ s : State, s.session.phase = .suspended) ∧
    (∃ s : State, (s.session.phase = .none ∨ s.session.phase = .failed)) ∧
    (∃ (s : State) (f : Conversion) (l : List Delivery), s.seq.inFlight = some f ∧ s.monitor.sweep = some l ∧
      s.power.state = .active ∧ s.power.fast = .running ∧ s.role = .handle ∧ f.set.pack = true ∧ l.length = 10) :=
  ⟨⟨{ wH with session := { wH.session with phase := .qualify } }, (by decide)⟩,
   ⟨{ wH with
     session := { wH.session with phase := .qualify }, link := { wH.link with state := .linked },
     drive := { wH.drive with state := .coasting } }, (by decide)⟩,
   ⟨{ wH with
     session := { wH.session with phase := .qualify }, link := { wH.link with state := .linked },
     pack := { wH.pack with vmin := 2999 + (86 : Nat) } }, (by decide)⟩,
   ⟨{ wH with session := { wH.session with phase := .precharge }, pack := { wH.pack with vmin := 2999 + (0 : Nat) } },
     (by decide)⟩,
   ⟨{ wH with
     session := { wH.session with phase := .constCurrent },
     pack := { wH.pack with vmax := wH.chargeCfg.vCellFull - (0 : Nat) } }, (by decide)⟩,
   ⟨{ wH with
     session := { wH.session with phase := .constVoltage, termination := 59999 - 2, request := (0 : Nat) },
     pack :=
       { wH.pack with vmax := wH.chargeCfg.vCellFull - 12 + (2 : Nat), vmin := 4180, packMa := -149 - (2 : Nat) } },
     (by decide)⟩,
   ⟨{ wH with
     session := { wH.session with phase := .topBalance },
     pack := { wH.pack with vmax := 4200 + (0 : Nat), vmin := 4180 } }, (by decide)⟩,
   ⟨{ wH with session := { wH.session with phase := .done }, pack := { wH.pack with vmin := 4050 + (0 : Nat) } },
     (by decide)⟩,
   ⟨{ wH with session := { wH.session with phase := .suspended }, link := { wH.link with state := .linked } },
     (by decide)⟩,
   ⟨{ wH with session := { wH.session with phase := .failed } }, (by decide)⟩,
   ⟨{ wS with session := { wS.session with phase := .constVoltage } }, _, _, rfl, rfl, (by decide)⟩⟩

/-- Witnesses of the hypotheses of ImpactsAreCounted, clause by clause. -/
theorem witness_ImpactsAreCounted :
    (∃ s : State, s.role = .handle ∧ s.fastUp = true ∧ s.dirt.dead = none ∧ s.sensingCfg.rejectUs ≠ 0) ∧
    (∃ (s : State) (n : Nat), s.dirt.window = some n ∧ s.role = .handle ∧ s.fastUp = true ∧ s.dirt.dead = none ∧
      s.sensingCfg.rejectUs = 0) ∧
    (∃ s : State, (s.role = .dock ∨ s.fastUp = false ∨ s.dirt.dead.isSome = true)) ∧
    (∃ (s : State) (d n : Nat), s.dirt.pulse = some d ∧ s.dirt.window = some n ∧ s.fastUp = true) ∧
    (∃ (s : State) (high : Bool) (d : Nat), s.dirt.pulse = some d ∧ s.fastUp = true ∧ (high = false ∨ s.dirt.window =
      none)) ∧
    (∃ (s : State) (d : Nat), s.dirt.dead = some d ∧ s.fastUp = true) :=
  ⟨⟨wH, (by decide)⟩,
   ⟨{ wH with dirt := { wH.dirt with window := some 4094 }, sensingCfg := { wH.sensingCfg with rejectUs := 0 } }, _,
     rfl, (by decide)⟩,
   ⟨{ wH with dirt := { wH.dirt with dead := some 1 } }, (by decide)⟩,
   ⟨{ wH with dirt := { wH.dirt with pulse := some (wH.now + 4), window := some 7 } }, _, _, rfl, rfl, (by decide)⟩,
   ⟨{ wH with dirt := { wH.dirt with pulse := some (wH.now + 4) } }, true, _, rfl, (by decide)⟩,
   ⟨{ wH with dirt := { wH.dirt with dead := some wH.now } }, _, rfl, (by decide)⟩⟩

/-- Witnesses of the hypotheses of WindowCloseGradesTheDirt, clause by clause. -/
theorem witness_WindowCloseGradesTheDirt :
    (∃ (s : State) (d n : Nat),
      let ring := (if 20 ≤ s.dirt.ring.length then s.dirt.ring.drop 1 else
      s.dirt.ring) ++ [n]
      s.dirt.windowTimer = some d ∧ s.dirt.window = some n ∧ ring.length < 4) ∧
    (∃ (s : State) (d n : Nat),
      let ring := (if 20 ≤ s.dirt.ring.length then s.dirt.ring.drop 1 else
      s.dirt.ring) ++ [n]
      s.dirt.windowTimer = some d ∧ s.dirt.window = some n ∧ 4 ≤ ring.length ∧ ReportsFit s) ∧
    (∃ s : State,
      let g := s.dirt.grade
      let met :=
        if s.sensingCfg.t3 ≤ s.dirt.rate then 3
        else if s.sensingCfg.t2 ≤ s.dirt.rate then 2 else if s.sensingCfg.t1 ≤ s.dirt.rate then 1 else 0
      s.dirt.window.isSome = true ∧ 4 ≤ s.dirt.ring.length ∧ ReportsFit s ∧ g < met ∧ 1 ≤ s.dirt.rise) ∧
    (∃ s : State,
      let g := s.dirt.grade
      let bar := if g = 1 then s.sensingCfg.t1 else if g = 2 then s.sensingCfg.t2 else s.sensingCfg.t3
      s.dirt.window.isSome = true ∧ 4 ≤ s.dirt.ring.length ∧ ReportsFit s ∧ 1 ≤ g ∧ s.dirt.rate < (bar * 3).tdiv 4 ∧
      9 ≤ s.dirt.fall) :=
  ⟨⟨{ wH with dirt := { wH.dirt with windowTimer := some wH.now, window := some 9, ring := [8, 7] } }, _, _, rfl, rfl,
    (by dsimp only; decide)⟩,
   ⟨{ wH with
     dirt := { wH.dirt with
       windowTimer := some wH.now, window := some (20), ring := List.replicate (18 + 2) (2), fall := 8 + 0 } }, _, _,
     rfl, rfl, (by dsimp only; decide)⟩,
   ⟨{ wH with
     dirt := { wH.dirt with
       windowTimer := some wH.now, window := some (20), ring := List.replicate (18 + 2) (2), rise := 1, rate := 200,
       fall := 8 + 0 } }, (by dsimp only; decide)⟩,
   ⟨{ wH with
     now := 5000000001,
     dirt := { wH.dirt with
       windowTimer := some 5000000001, window := some (21), ring := List.replicate (18 + 0) (3), rise := 1, fall := 9,
       rate := 29, grade := 1 } }, (by dsimp only; decide)⟩⟩

/-- Witnesses of the hypotheses of ScanTimerStartsAScan, clause by clause. -/
theorem witness_ScanTimerStartsAScan :
    (∃ (s : State) (d : Nat), s.fill.next = some d ∧ s.fill.scan.isSome = true) ∧
    (∃ (s : State) (d : Nat), s.fill.next = some d ∧ s.fill.scan = none) :=
  ⟨⟨{ wH with
    fill := { wH.fill with next := some wH.now, scan := some { width := 12, endsAt := wH.now + 5, rebase := false } } },
    _, rfl, (by decide)⟩,
   ⟨{ wH with fill := { wH.fill with next := some wH.now }, sensingCfg := { wH.sensingCfg with width := 9 + 0 } }, _,
     rfl, (by decide)⟩⟩

/-- Witnesses of the hypotheses of ScanCompletionFindsTheLevel, clause by clause. -/
theorem witness_ScanCompletionFindsTheLevel :
    (∃ (s : State) (c : Scan), s.fill.scan = some c ∧ (s.fill.rebasePending = false ∨ c.rebase = false ∨ s.drive.state
      ≠ .stopped)) ∧
    (∃ (s : State) (c : Scan), s.fill.scan = some c ∧ s.fill.rebasePending = true ∧ c.rebase = true ∧ s.drive.state =
      .stopped ∧ 0 < s.sensingCfg.cover) ∧
    (∃ (s : State) (c : Scan), s.fill.scan = some c ∧ s.role = .dock ∧ s.power.standbyPending = false ∧ ReportsFit s ∧
      evacLive s.cycle.state = true ∧ condActive s .bagFull = false) :=
  ⟨⟨{ wH with
    fill := { wH.fill with
      scan := some { width := 9 + 0, endsAt := wH.now + 5, rebase := false }, debounced := 2, candCount := 1 + 0 } },
    _, rfl, (by decide)⟩,
   ⟨{ wH with
     fill :=
       { wH.fill with rebasePending := true, scan := some { width := 9 + 0, endsAt := wH.now + 5, rebase := true } } },
     _, rfl, (by decide)⟩,
   ⟨{ wD with
     drive := { wD.drive with state := .regulate, duty := 300 },
     cycle := { wD.cycle with state := .running, duration := 20 },
     fill := { wD.fill with
       scan := some { width := 9, endsAt := wD.now + 5, rebase := false }, debounced := 2, candidate := some 4, candCount := 2 } },
     _, rfl, (by decide)⟩⟩

/-- Witnesses of the hypotheses of FillLimitsReportAndRaise, clause by clause. -/
theorem witness_FillLimitsReportAndRaise :
    (∃ (s : State) (c : Nat), s.fill.candidate = some c ∧ s.role = .handle ∧ s.power.state = .active ∧
      s.power.standbyPending = false ∧ ReportsFit s ∧ 2 ≤ s.fill.candCount ∧ (s.conds.map (·.kind)).Nodup) ∧
    (∃ (s : State) (c : Nat), s.fill.candidate = some c ∧ s.role = .dock ∧ s.power.state = .active ∧
      s.power.standbyPending = false ∧ ReportsFit s ∧ 2 ≤ s.fill.candCount ∧ (s.conds.map (·.kind)).Nodup ∧ (evacLive
      s.cycle.state = false ∨ c < s.sensingCfg.full ∨ condActive s .bagFull = true)) ∧
    (∃ (s : State) (c : Nat), s.fill.candidate = some c ∧ s.role = .dock ∧ s.power.state = .active ∧
      s.power.standbyPending = false ∧ ReportsFit s ∧ 2 ≤ s.fill.candCount ∧ evacLive s.cycle.state = true ∧
      s.sensingCfg.full ≤ c ∧ condActive s .bagFull = false) ∧
    (∃ s : State, Calm s ∧ ReportsFit s ∧ condActive s .binAbsent = false ∧ ((s.fill.electrodes[7]).baseline *
      250).tdiv 1000 ≤ ((s.fill.electrodes[7]).raw - (s.fill.electrodes[7]).baseline) ∧ 1 ≤ s.fill.absent) ∧
    (∃ s : State, s.role = .handle ∧ s.power.state = .active ∧ ReportsFit s ∧ condActive s .binAbsent = true ∧ ¬
      ((s.fill.electrodes[7]).baseline * 250).tdiv 1000 ≤ ((s.fill.electrodes[7]).raw -
      (s.fill.electrodes[7]).baseline) ∧ 1 ≤ s.fill.present) ∧
    (∃ (s : State) (k : Nat), s.link.postCount = some k ∧ s.power.state = .active ∧ s.power.standbyPending = false ∧
      s.role = .handle ∧ ReportsFit s ∧ 2 ≤ k ∧ s.sensingCfg.full ≤ s.fill.debounced ∧ condActive s
      .evacuationIneffective = false) ∧
    (∃ (s : State) (k : Nat), s.link.postCount = some k ∧ s.power.state = .active ∧ 2 ≤ k ∧ s.fill.debounced <
      s.sensingCfg.full) :=
  ⟨⟨{ wH with fill := { wH.fill with candCount := 2, candidate := some (3 + 0), debounced := 2 } }, _, rfl,
    (by decide)⟩,
   ⟨{ wD with fill := { wD.fill with candCount := 2, candidate := some wD.sensingCfg.full, debounced := 2 } }, _, rfl,
    (by decide)⟩,
   ⟨{ wD with
     drive := { wD.drive with state := .regulate, duty := 300 },
     cycle := { wD.cycle with state := .running, duration := 20 },
     fill := { wD.fill with candCount := 2, candidate := some wD.sensingCfg.full, debounced := 2 } }, _, rfl,
    (by decide)⟩,
   ⟨{ wH with
     fill := { wH.fill with
       absent := 1,
       electrodes := wH.fill.electrodes.set 7 { (wH.fill.electrodes[7]) with baseline := 40000, raw := 50000 } } },
     (by decide)⟩,
   ⟨{ wH with
     conds := [{ kind := .binAbsent, active := true, first := 1, last := 2, occurrences := 3, detail := none }],
     fill := { wH.fill with
       present := 1,
       electrodes := wH.fill.electrodes.set 7 { (wH.fill.electrodes[7]) with baseline := 40000, raw := 49999 } } },
     (by decide)⟩,
   ⟨{ wH with fill := { wH.fill with debounced := 6 }, link := { wH.link with postCount := some (2 + 0) } }, _, rfl,
     (by decide)⟩,
   ⟨{ wH with fill := { wH.fill with debounced := 2 }, link := { wH.link with postCount := some (2 + 0) } }, _, rfl,
     (by decide)⟩⟩

/-- Witnesses of the hypotheses of SensingRequestsAreTaken, clause by clause. -/
theorem witness_SensingRequestsAreTaken :
    (∃ (s : State) (a r : Byte) (p q w : BitVec 16) (dr ch ck cw : Byte) (cv : BitVec 16) (fu : Byte),
      let cfg := storedSensingCfg a r p q w dr ch ck cw cv fu
      Listening s ∧ (cfg.t2 ≤ cfg.t1 ∨ cfg.t3 ≤ cfg.t2)) ∧
    (∃ (s : State) (a r : Byte) (p q w : BitVec 16) (dr ch ck cw : Byte) (cv : BitVec 16) (fu : Byte),
      let cfg := storedSensingCfg a r p q w dr ch ck cw cv fu
      Listening s ∧ (s.role = .handle ∨ cfg.full = s.sensingCfg.full) ∧ cfg.t1 < cfg.t2 ∧ cfg.t2 < cfg.t3) ∧
    (∃ (s : State) (a r : Byte) (p q w : BitVec 16) (dr ch ck cw : Byte) (cv : BitVec 16) (fu : Byte),
      let cfg := storedSensingCfg a r p q w dr ch ck cw cv fu
      Listening s ∧ s.role = .dock ∧ cfg.full ≠ s.sensingCfg.full ∧ (cfg.t1 < cfg.t2 ∧ cfg.t2 < cfg.t3) ∧
      (evacLive s.cycle.state = false ∨ s.fill.debounced < cfg.full ∨ condActive s .bagFull = true)) ∧
    (∃ (s : State) (a r : Byte) (p q w : BitVec 16) (dr ch ck cw : Byte) (cv : BitVec 16) (fu : Byte),
      let cfg := storedSensingCfg a r p q w dr ch ck cw cv fu
      Listening s ∧ s.role = .dock ∧ cfg.full ≠ s.sensingCfg.full ∧ (cfg.t1 < cfg.t2 ∧ cfg.t2 < cfg.t3) ∧
      evacLive s.cycle.state = true ∧ cfg.full ≤ s.fill.debounced ∧ condActive s .bagFull = false) ∧
    (∃ s : State, Listening s ∧ s.drive.state = .stopped) ∧
    (∃ s : State, Listening s ∧ s.drive.state ≠ .stopped) ∧
    (∃ s : State, Listening s ∧ s.role = .handle ∧ ReportsFit s) ∧
    (∃ s : State, Listening s ∧ s.role = .dock) :=
  ⟨⟨wH, 0xFF, 0xFF, 0, 0, 0, 0xFF, 0xFF, 0xFF, 0xFF, 0, 0xFF, (by dsimp only; decide)⟩,
   ⟨{ wH with
     fill := { wH.fill with scan := some { width := 9, endsAt := wH.now + 7, rebase := false }, debounced := 5 } },
     0xFF, 0xFF, 0, 600, 0xFFFF, 0xFF, 0xFF, 0xFF, 0xFF, 0, 0xFF, (by dsimp only; decide)⟩,
   ⟨wD, 0xFF, 0xFF, 0, 600, 0xFFFF, 0xFF, 0xFF, 0xFF, 0xFF, 0, 3, (by dsimp only; decide)⟩,
   ⟨{ wD with
     drive := { wD.drive with state := .regulate, duty := 300 },
     cycle := { wD.cycle with state := .running, duration := 20 },
     fill := { wD.fill with debounced := 3 } },
     0xFF, 0xFF, 0, 600, 0xFFFF, 0xFF, 0xFF, 0xFF, 0xFF, 0, 3, (by dsimp only; decide)⟩,
   ⟨wH, (by decide)⟩,
   ⟨{ wH with drive := { wH.drive with state := .coasting } }, (by decide)⟩,
   ⟨{ wH with drive := { wH.drive with state := .regulate } }, (by decide)⟩,
   ⟨{ wH with role := .dock }, (by decide)⟩⟩

/-- Witnesses of the hypotheses of ConversionCompletionWritesTheRecord, clause by clause. -/
theorem witness_ConversionCompletionWritesTheRecord :
    (∃ (s : State) (f : Conversion), s.seq.inFlight = some f ∧ s.fastUp = true) ∧
    (∃ (s : State) (f : Conversion), s.seq.inFlight = some f ∧ s.fastUp = true ∧ f.set =
      { drive := false, output := false, pack := false, charge := false, dock := false, port := true } ∧ ReportsFit s) ∧
    (∃ (s : State) (f : Conversion), s.seq.inFlight = some f ∧ s.fastUp = true ∧ f.chan = .dockV ∧ f.set =
      { drive := false, output := false, pack := false, charge := false, dock := true, port := false }) ∧
    (∃ (s : State) (f : Conversion) (i : Nat) (e : Entry), s.seq.inFlight = some f ∧ s.seq.queue[i]? = some e ∧ s.fastUp
      = true ∧ (s.power.state = .active ∨ s.seq.held = false) ∧ SweepGoesOn f s ∧ Chosen i e s) ∧
    (∃ (s : State) (f : Conversion), s.seq.inFlight = some f ∧ s.fastUp = true ∧ SweepGoesOn f s ∧ (s.seq.queue = [] ∨
      (s.power.state = .standby ∧ s.seq.held = true))) ∧
    (∃ (s : State) (f : Conversion), s.seq.inFlight = some f ∧ s.fastUp = true) ∧
    (∃ (s : State) (i : Nat) (e : Entry), s.seq.queue[i]? = some e ∧ s.seq.inFlight = none ∧ s.fastUp = true ∧
      (s.power.state = .active ∨ s.seq.held = false) ∧ Chosen i e s) :=
  ⟨⟨{ wH with
    seq := { wH.seq with
      inFlight := some {
        chan := Chan.all.getD (5) .ref,
        set := { drive := false, output := false, pack := false, charge := false, dock := false, port := true },
        count := [1,2,4,8].getD (0) 1, codes := nominalCodes, endsAt := wH.now + 50 } } }, _, rfl, (by decide)⟩,
   ⟨{ wH with
     seq := { wH.seq with
       inFlight := some {
         chan := Chan.all.getD (5) .ref,
         set := { drive := false, output := false, pack := false, charge := false, dock := false, port := true },
         count := [1,2,4,8].getD (0) 1, codes := nominalCodes, endsAt := wH.now + 50 } } }, _, rfl, (by decide)⟩,
   ⟨{ wH with
     seq := { wH.seq with
       inFlight := some {
         chan := .dockV,
         set := { drive := false, output := false, pack := false, charge := false, dock := true, port := false },
         count := [1,2,4,8].getD (0) 1, codes := nominalCodes, endsAt := wH.now + 50 } } }, _, rfl, (by decide)⟩,
   ⟨{ wH with
     seq := { wH.seq with
       inFlight := some {
         chan := .ref,
         set := { drive := false, output := false, pack := false, charge := false, dock := false, port := true },
         count := 1, codes := nominalCodes, endsAt := wH.now + 50 },
       queue := [
         { chan := .cell1, set := { drive := false, output := false, pack := false, charge := false, dock := false, port := true }, cls := 2, count := 4 },
         { chan := .packV, set := { drive := true, output := false, pack := false, charge := false, dock := false, port := true }, cls := 0, count := 4 },
         { chan := .packI, set := { drive := true, output := false, pack := false, charge := false, dock := false, port := true }, cls := 0, count := 4 }] } }, _, 1, _, rfl, rfl, (by decide)⟩,
   ⟨{ wH with
     seq := { wH.seq with
       inFlight := some {
         chan := .ref,
         set := { drive := false, output := false, pack := false, charge := false, dock := false, port := true },
         count := 1, codes := nominalCodes, endsAt := wH.now + 50 },
       held := true,
       queue := [
         { chan := .cell1, set := { drive := false, output := false, pack := false, charge := false, dock := false, port := true }, cls := 2, count := 4 },
         { chan := .packV, set := { drive := true, output := false, pack := false, charge := false, dock := false, port := true }, cls := 0, count := 4 },
         { chan := .packI, set := { drive := true, output := false, pack := false, charge := false, dock := false, port := true }, cls := 0, count := 4 }] },
     power := { wH.power with state := .standby } }, _, rfl, (by decide)⟩,
   ⟨{ wH with
     seq := { wH.seq with
       inFlight := some {
         chan := .ref,
         set := { drive := false, output := false, pack := false, charge := false, dock := false, port := true },
         count := 1, codes := nominalCodes, endsAt := wH.now + 50 } } }, _, rfl, (by decide)⟩,
   ⟨{ wH with
     seq := { wH.seq with
       queue := [
         { chan := .cell1, set := { drive := false, output := false, pack := false, charge := false, dock := false, port := true }, cls := 2, count := 4 },
         { chan := .packV, set := { drive := true, output := false, pack := false, charge := false, dock := false, port := true }, cls := 0, count := 4 },
         { chan := .packI, set := { drive := true, output := false, pack := false, charge := false, dock := false, port := true }, cls := 0, count := 4 }] } }, 1, _, rfl, (by decide)⟩⟩

/-- Witnesses of the hypotheses of SequencerRequestsAreAnswered, clause by clause. -/
theorem witness_SequencerRequestsAreAnswered :
    (∃ (s : State) (n : Byte), Listening s ∧ (n.toNat < 1 ∨ 15 < n.toNat)) ∧
    (∃ (s : State) (x : Chan), Listening s ∧ x.inRole s.role = false) ∧
    (∃ (s : State) (n : Byte), Listening s ∧ (n.toNat < 1 ∨ 15 < n.toNat)) ∧
    (∃ (s : State) (x : Chan), Listening s ∧ x.inRole s.role = false) ∧
    (∃ (s : State) (n : Byte), Listening s ∧ (n.toNat < 1 ∨ 15 < n.toNat)) ∧
    (∃ (s : State) (x : Chan), Listening s ∧ x.inRole s.role = false) ∧
    (∃ (s : State) (x : Chan), Listening s ∧ x.inRole s.role = true) ∧
    (∃ (s : State) (x : Chan), Listening s ∧ x.inRole s.role = true) ∧
    (∃ (s : State) (x : Chan), Listening s ∧ x.inRole s.role = true ∧ s.seq.inFlight.isSome = true ∧ (∃ e ∈
      s.seq.queue, e.chan = x)) ∧
    (∃ (s : State) (x : Chan), Listening s ∧ x.inRole s.role = true ∧ s.seq.inFlight.isSome = true ∧ (∀ e ∈
      s.seq.queue, e.chan ≠ x) ∧ s.seq.queue.length < 12) ∧
    (∃ (s : State) (x : Chan), Listening s ∧ x.inRole s.role = true ∧ s.seq.inFlight = none ∧ s.seq.queue = []) ∧
    (∃ (s : State) (x : Chan), Listening s ∧ x.inRole s.role = true ∧ (∀ e ∈ s.seq.queue, e.chan ≠ x) ∧ 12 ≤
      s.seq.queue.length) ∧
    (∃ (s : State) (x : Chan) (e : Entry), s.seq.queue.reverse.find? (fun e => decide (e.set =
      { drive := false, output := false, pack := false, charge := false, dock := false, port := true })) = some e ∧
      s.seq.inFlight.isSome = true ∧ (∀ e ∈ s.seq.queue, e.chan ≠ x) ∧ 12 ≤ s.seq.queue.length ∧ ReportsFit s) :=
  ⟨⟨wH, 0xFF, (by decide)⟩,
   ⟨wH, .outI, (by decide)⟩,
   ⟨wH, 0xFF, (by decide)⟩,
   ⟨wH, .outI, (by decide)⟩,
   ⟨wH, 0xFF, (by decide)⟩,
   ⟨wH, .outI, (by decide)⟩,
   ⟨wH, .cell7, (by decide)⟩,
   ⟨wH, .cell7, (by decide)⟩,
   ⟨{ wH with
     seq := { wH.seq with
       inFlight := some
         { chan := .packV, set := noRequesters.add .drive, count := 1, codes := nominalCodes, endsAt := wH.now + 9 },
       queue := [{ chan := (.cell7 : Chan), set := noRequesters.add .pack, cls := 1, count := 2 }] } }, .cell7,
     (by decide)⟩,
   ⟨{ wH with
     seq := { wH.seq with
       inFlight := some
         { chan := .packV, set := noRequesters.add .drive, count := 1, codes := nominalCodes, endsAt := wH.now + 9 },
       queue := [] } }, .cell7, (by decide)⟩,
   ⟨wH, .cell7, (by decide)⟩,
   ⟨{ wH with
     seq := { wH.seq with
       inFlight := some
         { chan := .packV, set := noRequesters.add .drive, count := 1, codes := nominalCodes, endsAt := wH.now + 9 },
       queue := ((Chan.all.filter (fun y => y != (.cell7 : Chan))).take 12).map (fun y =>
         { chan := y, set := noRequesters.add (if y.index.val % 3 == 0 then .port else .pack), cls := 1, count := 1 }) } },
     .cell7, (by decide)⟩,
   ⟨{ wH with
     seq := { wH.seq with
       inFlight := some
         { chan := .packV, set := noRequesters.add .drive, count := 1, codes := nominalCodes, endsAt := wH.now + 9 },
       queue := ((Chan.all.filter (fun y => y != (.cell7 : Chan))).take 12).map (fun y =>
         { chan := y, set := noRequesters.add (if y.index.val % 3 == 0 then .port else .pack), cls := 1, count := 1 }) } },
     .cell7, _, rfl, (by decide)⟩⟩

/-- Witnesses of the hypotheses of ListTakesRaisesAndEnds, clause by clause. -/
theorem witness_ListTakesRaisesAndEnds :
    (∃ (s : State) (k : CondKind), condActive s k = false) ∧
    (∃ (s : State) (k : CondKind), condActive s k = true) ∧
    (∃ (s : State) (k : CondKind), condActive s k = false) ∧
    (∃ (s : State) (k : CondKind), condActive s k = true) ∧
    (∃ (s : State) (k : CondKind), condActive s k = true ∧ ReportsFit s) ∧
    (∃ (s : State) (k : CondKind), condActive s k = false) :=
  ⟨⟨{ wH with conds := [] }, .trimInvalid, (by decide)⟩,
   ⟨{ wH with
     conds := [{
       kind := (.trimInvalid : CondKind), active := true, first := 1, last := 2, occurrences := 255, detail := none }] },
     .trimInvalid, (by decide)⟩,
   ⟨wH, .cellOvervolt, (by decide)⟩,
   ⟨{ wH with
     conds := [{
       kind := (.cellOvervolt : CondKind), active := true, first := 1, last := 2, occurrences := 255, detail := none }] },
     .cellOvervolt, (by decide)⟩,
   ⟨{ wH with
     conds := [{
       kind := (.trimInvalid : CondKind), active := true, first := 1, last := 2, occurrences := 255, detail := none }] },
     .trimInvalid, (by decide)⟩,
   ⟨wH, .trimInvalid, (by decide)⟩⟩

/-- Witnesses of the hypotheses of ConditionsAreReadAndAcknowledged, clause by clause. -/
theorem witness_ConditionsAreReadAndAcknowledged :
    (∃ (s : State) (n : Byte), Listening s ∧ (n = 0 ∨ 24 < n.toNat)) ∧
    (∃ (s : State) (k : CondKind), Listening s ∧ condOf (received s) k = none) ∧
    (∃ (s : State) (k : CondKind) (r : CondRec), condOf (received s) k = some r ∧ Listening s ∧ r.active = true) ∧
    (∃ (s : State) (k : CondKind) (occ : Byte) (r : CondRec), condOf (received s) k = some r ∧ Listening s ∧ r.active
      = false ∧ r.occurrences ≠ occ.toNat) ∧
    (∃ (s : State) (k : CondKind) (occ : Byte) (r : CondRec), condOf (received s) k = some r ∧ Listening s ∧ r.active
      = false ∧ r.occurrences = occ.toNat) ∧
    (∃ s : State, Listening s) :=
  ⟨⟨wH, 0xFF, (by decide)⟩,
   ⟨wH, .trimInvalid, (by decide)⟩,
   ⟨{ wH with
     conds := [{
       kind := (.trimInvalid : CondKind), active := true, first := 1, last := 2, occurrences := 3, detail := none }] },
     .trimInvalid, _, rfl, (by decide)⟩,
   ⟨{ wH with
     conds := [{
       kind := (.trimInvalid : CondKind), active := false, first := 1, last := 2, occurrences := 255, detail := none }] },
     .trimInvalid, 0, _, rfl, (by decide)⟩,
   ⟨{ wH with
     conds := [{
       kind := ((.trimInvalid : CondKind)), active := false, first := 1, last := 2,
       occurrences := 255, detail := none }], link := { wH.link with docked := false } },
     .trimInvalid, 0xFF, _, rfl, (by decide)⟩,
   ⟨wH, (by decide)⟩⟩

/-- Witnesses of the hypotheses of WatchesAreSetAndCleared, clause by clause. -/
theorem witness_WatchesAreSetAndCleared :
    (∃ (s : State) (n qc d : Byte), Listening s ∧ (7 < n.toNat ∨ qc = 0 ∨ 21 < qc.toNat ∨ 1 <
      d.toNat)) ∧
    (∃ (s : State) (n : Byte) (q : Quantity) (d : Byte), Listening s ∧ n.toNat ≤ 7 ∧ d.toNat ≤ 1 ∧ (¬ ((q = .minCell
      ∨ q = .maxCell ∨ q = .soc ∨ q = .dirtRate → s.role = .handle) ∧ (∀ c : Chan, q = .chan c → c.inRole s.role =
      true)))) ∧
    (∃ (s : State) (n : Byte) (q : Quantity) (d : Byte), Listening s ∧ n.toNat ≤ 7 ∧ d.toNat ≤ 1 ∧ ((q = .minCell ∨ q
      = .maxCell ∨ q = .soc ∨ q = .dirtRate → s.role = .handle) ∧ (∀ c : Chan, q = .chan c → c.inRole s.role = true)))
      ∧
    (∃ (s : State) (i : Fin 8) (q : Quantity) (v : Int) (w : Watch), s.watches[i] = some w ∧ w.quantity = q ∧
      w.rising = true ∧ w.fired = false ∧ w.threshold ≤ v) ∧
    (∃ (s : State) (n : Byte), Listening s ∧ 7 < n.toNat) ∧
    (∃ (s : State) (n : Byte), Listening s ∧ n.toNat ≤ 7) ∧
    (∃ s : State, Listening s) :=
  ⟨⟨wH, 0xFF, 0xFF, 0xFF, (by decide)⟩,
   ⟨wH, 0, .chan .busV, 0, (by decide), (by decide), (by decide), fun h => absurd (h.2 .busV rfl) (by decide)⟩,
   ⟨wH, 0, .soc, 0, (by decide), (by decide), (by decide), (by decide), nofun⟩,
   ⟨{ wH with
     watches := wH.watches.set (7 : Fin 8) (some
       ({ quantity := .soc, rising := true, threshold := 0, hysteresis := 0, fired := false } : Watch)) }, 7, .soc, 0,
     { quantity := .soc, rising := true, threshold := 0, hysteresis := 0, fired := false }, (by decide)⟩,
   ⟨wH, 0xFF, (by decide)⟩,
   ⟨wH, 0, (by decide)⟩,
   ⟨wH, (by decide)⟩⟩

/-- Witnesses of the hypotheses of PublicationTestsEverySlot, clause by clause. -/
theorem witness_PublicationTestsEverySlot :
    (∃ (s : State) (i : Fin 8) (w : Watch), s.watches[i] = some w) ∧
    (∃ (s : State) (i : Fin 8), s.watches[i] = none) ∧
    (∃ s : State, ReportsFit s) :=
  ⟨⟨{ wH with
    watches := wH.watches.set (7 : Fin 8) (some (
      { ({ quantity := .soc, rising := true, threshold := 0, hysteresis := 0, fired := false } : Watch) with
        quantity := (.soc : Quantity) })) }, 7,
    { quantity := .soc, rising := true, threshold := 0, hysteresis := 0, fired := false }, (by decide)⟩,
   ⟨wH, 7, (by decide)⟩,
   ⟨{ wH with
     watches := (wH.watches.set 3 (some
       { ({ quantity := .soc, rising := true, threshold := 0, hysteresis := 0, fired := false } : Watch) with
         quantity := (.soc : Quantity) })).set 5 (some
       { ({ quantity := .soc, rising := true, threshold := 0, hysteresis := 0, fired := false } : Watch) with
         quantity := (.soc : Quantity), fired := false }) }, (by decide)⟩⟩

/-- Witnesses of the hypotheses of DockingIsQualified, clause by clause. -/
theorem witness_DockingIsQualified :
    (∃ s : State, (s.up = false ∨ s.role = .dock)) ∧
    (∃ s : State, s.up = true ∧ s.role = .handle) ∧
    (∃ s : State, s.up = true ∧ s.role = .handle) ∧
    (∃ (s : State) (d : Nat), s.link.candidate = some d ∧ s.role = .handle ∧ s.power.state = .active ∧
      s.power.standbyPending = false ∧ s.link.docked = false ∧ s.drive.state.running = false ∧ ReportsFit s) ∧
    (∃ (s : State) (d : Nat), s.link.candidate = some d ∧ s.role = .handle ∧ s.power.state = .active ∧
      s.power.standbyPending = false ∧ s.link.docked = false ∧ s.drive.state.running = true ∧ ReportsFit s) :=
  ⟨⟨{ wH with role := .dock }, (by decide)⟩,
   ⟨{ wH with link := { wH.link with candidate := some 5 } }, (by decide)⟩,
   ⟨wH, (by decide)⟩,
   ⟨{ wH with
     link := { wH.link with candidate := some (wH.now + 7) }, drive := { wH.drive with state := .coasting } }, _, rfl,
     (by decide)⟩,
   ⟨{ wH with
     link := { wH.link with candidate := some (wH.now + 7) }, drive := { wH.drive with state := .regulate } }, _, rfl,
     (by decide)⟩⟩

/-- Witnesses of the hypotheses of UndockingClearsTheLink, clause by clause. -/
theorem witness_UndockingClearsTheLink :
    ∃ (s : State) (d : Nat), s.link.candidate = some d ∧ s.role = .handle ∧ s.power.state = .active ∧
    s.power.standbyPending = false ∧ s.link.docked = true ∧ NoPortAlone s ∧ ReportsFit s :=
  ⟨{ wH with
    link := { wH.link with docked := true, candidate := some (wH.now + 7) },
    session := { wH.session with phase := .constCurrent },
    conds := [{
      kind := .dockLinkFault, active := true, first := 1, last := 2, occurrences := 255, detail := none },
      { kind := .chargeTemp, active := true, first := 1, last := 2, occurrences := 5, detail := none }] },
    _, rfl, (by decide)⟩

/-- Witnesses of the hypotheses of LinkTimersAndExchangeStarts, clause by clause. -/
theorem witness_LinkTimersAndExchangeStarts :
    (∃ s : State, s.role = .handle ∧ s.power.state = .active ∧ s.power.fast = .running ∧ s.link.exchange = none ∧
      s.link.backoff = none ∧ (s.link.state = .identifying ∨ s.link.state = .fault) ∧ s.link.pend.ident = true) ∧
    (∃ s : State, s.role = .handle ∧ s.power.state = .active ∧ s.power.fast = .running ∧ s.link.exchange = none ∧
      s.link.backoff = none ∧ s.link.state = .linked ∧ s.link.pend.evacStop = true) ∧
    (∃ s : State, s.role = .handle ∧ s.power.state = .active ∧ s.power.fast = .running ∧ s.link.exchange = none ∧
      s.link.backoff = none ∧ s.link.state = .linked ∧ s.link.pend.evacStop = false ∧ s.link.pend.evacStart = true) ∧
    (∃ s : State, s.role = .handle ∧ s.power.state = .active ∧ s.power.fast = .running ∧ s.link.exchange = none ∧
      s.link.backoff = none ∧ s.link.state = .linked ∧ s.link.pend.evacStop = false ∧ s.link.pend.evacStart = false ∧
      s.link.pend.setpoint = true ∧ s.seq.queue.length < 12) ∧
    (∃ s : State, s.role = .handle ∧ s.power.state = .active ∧ s.power.fast = .running ∧ s.link.exchange = none ∧
      s.link.backoff = none ∧ s.link.state = .linked ∧ s.link.pend.evacStop = false ∧ s.link.pend.evacStart = false ∧
      s.link.pend.setpoint = false ∧ s.link.pend.evacQuery = true) ∧
    (∃ s : State, (s.link.exchange.isSome = true ∨ s.link.backoff.isSome = true ∨ s.link.state = .absent)) ∧
    (∃ (s : State) (e : Exchange) (u : Nat), s.link.exchange = some e ∧ e.sentAt = some u ∧ (e.receiving = true ∨
      s.now ≤ u + 20000000)) ∧
    (∃ (s : State) (d : Nat), s.link.backoff = some d) ∧
    (∃ (s : State) (d : Nat), s.link.setpointPoll = some d) ∧
    (∃ (s : State) (d : Nat), s.link.queryPoll = some d) ∧
    (∃ (s : State) (d : Nat), s.link.faultRetry = some d) :=
  ⟨⟨{ wH with
    link := { wH.link with state := .fault, pend := { wH.link.pend with ident := true } } }, (by decide)⟩,
   ⟨{ wH with
     link := { wH.link with state := .linked, pend := { wH.link.pend with evacStop := true } } }, (by decide)⟩,
   ⟨{ wH with
     link := { wH.link with state := .linked, pend := { wH.link.pend with evacStop := false, evacStart := true } } },
     (by decide)⟩,
   ⟨{ wH with
     link := { wH.link with
       state := .linked, pend := { wH.link.pend with evacStop := false, evacStart := false, setpoint := true } } },
     (by decide)⟩,
   ⟨{ wH with
     link := { wH.link with
       state := .linked,
       pend := { wH.link.pend with evacStop := false, evacStart := false, setpoint := false, evacQuery := true } } },
     (by decide)⟩,
   ⟨wH, (by decide)⟩,
   ⟨{ wH with
     link := { wH.link with
       state := .linked, exchange := some {
         kind := .ident, frame := [], enable := true, idleLimit := wH.now + 3,
         sentAt := some (wH.now - 3000000), receiving := true } },
     session := { wH.session with phase := .constCurrent } }, _, _, rfl, rfl, (by decide)⟩,
   ⟨{ wH with link := { wH.link with backoff := some (wH.now + 9) } }, _, rfl⟩,
   ⟨{ wH with link := { wH.link with setpointPoll := some (wH.now + 9) } }, _, rfl⟩,
   ⟨{ wH with link := { wH.link with queryPoll := some (wH.now + 9) } }, _, rfl⟩,
   ⟨{ wH with link := { wH.link with faultRetry := some (wH.now + 9) } }, _, rfl⟩⟩

/-- Witnesses of the hypotheses of FailedExchangesAreCounted, clause by clause. -/
theorem witness_FailedExchangesAreCounted :
    (∃ (s : State) (e : Exchange), s.link.exchange = some e ∧ e.sentAt = none ∧ s.link.state ≠ .fault ∧ s.link.failures
      < 2) ∧
    (∃ (s : State) (e : Exchange) (u : Nat), s.link.exchange = some e ∧ e.sentAt = some u ∧ s.now < u ∧ s.link.state ≠
      .fault ∧ s.link.failures < 2) ∧
    (∃ (s : State) (e : Exchange) (u : Nat), s.link.exchange = some e ∧ e.sentAt = some u ∧ e.receiving = false ∧
      s.link.state ≠ .fault ∧ s.link.failures < 2) ∧
    (∃ (s : State) (e : Exchange), s.link.exchange = some e ∧ e.receiving = true ∧ s.link.state ≠ .fault ∧
      s.link.failures < 2) ∧
    (∃ (s : State) (e : Exchange) (u : Nat), s.link.exchange = some e ∧ e.sentAt = some u ∧ (e.receiving = true ∨
      s.now ≤ u + 20000000) ∧ s.link.state ≠ .fault ∧ s.link.failures < 2) ∧
    (∃ (s : State) (f : List Byte) (e : Exchange) (u : Nat), s.link.exchange = some e ∧ e.sentAt = some u ∧
      (e.receiving = true ∨ s.now ≤ u + 20000000) ∧ (f.getD 1 0 ≠ e.kind.kind + 0x40 ∨ (f.drop 1).foldl (· ^^^ ·) 0 ≠
      0) ∧ s.link.state ≠ .fault ∧ s.link.failures < 2) ∧
    (∃ (s : State) (e : Exchange) (u : Nat), s.link.exchange = some e ∧ e.sentAt = some u ∧ e.receiving = false ∧
      s.link.state = .fault) ∧
    (∃ (s : State) (e : Exchange), s.link.exchange = some e ∧ Calm s ∧ (s.link.state = .identifying ∨ s.link.state =
      .linked) ∧ 2 ≤ s.link.failures ∧ condActive s .dockLinkFault = false ∧ ReportsFit s) ∧
    (∃ (s : State) (e : Exchange), s.link.exchange = some e ∧ s.role = .handle ∧ s.power.state = .active ∧
      s.power.standbyPending = false ∧ s.link.state = .linked ∧ 2 ≤ s.link.failures ∧ condActive
      s .dockLinkFault = false ∧ s.session.phase.charging = true ∧ NoPortAlone s ∧ ReportsFit s) ∧
    (∃ (s : State) (e : Exchange), s.link.exchange = some e ∧ e.kind ≠ .setpoint ∧ s.link.state = .identifying ∧ 2 ≤
      s.link.failures ∧ condActive s .dockLinkFault = true ∧ ReportsFit s) ∧
    (∃ (s : State) (c : Instr) (e : Exchange) (f : LinkFailure) (n : Nat), s.link.exchange = some e ∧ FailsBy c e s f n
      ∧ Calm s ∧ (s.link.state = .identifying ∨ s.link.state = .linked) ∧ 2 ≤ s.link.failures ∧ condActive s
      .dockLinkFault = false ∧ ReportsFit s) ∧
    (∃ (s : State) (c : Instr) (e : Exchange) (f : LinkFailure) (n : Nat), s.link.exchange = some e ∧ FailsBy c e s f n
      ∧ s.role = .handle ∧ s.power.state = .active ∧ s.power.standbyPending = false ∧ (s.link.state = .identifying ∨
      s.link.state = .linked) ∧ 2 ≤ s.link.failures ∧ condActive s .dockLinkFault = false ∧ suspendable s = true ∧
      NoPortAlone s ∧ ReportsFit s) ∧
    (∃ (s : State) (c : Instr) (e : Exchange) (f : LinkFailure) (n : Nat), s.link.exchange = some e ∧ FailsBy c e s f n
      ∧ s.link.state = .identifying ∧ 2 ≤ s.link.failures ∧ condActive s .dockLinkFault = true ∧ ReportsFit s) :=
  ⟨⟨{ wH with
    link := { wH.link with
      state := .linked, exchange := some {
        kind := .setpoint, frame := [], enable := true, idleLimit := wH.now + 3, sentAt := none,
        receiving := false } }, session := { wH.session with phase := .constCurrent } }, _, rfl, (by decide)⟩,
   ⟨{ wH with
     link := { wH.link with
       state := .linked, exchange := some {
         kind := .setpoint, frame := [], enable := true, idleLimit := wH.now + 3,
         sentAt := some (wH.now + 4), receiving := false } }, session := { wH.session with phase := .constCurrent } },
     _, _, rfl, rfl, (by decide)⟩,
   ⟨{ wH with
     link := { wH.link with
       state := .linked, exchange := some {
         kind := .evacQuery, frame := [], enable := true, idleLimit := wH.now + 3,
         sentAt := some (wH.now - 3000000), receiving := false } },
     session := { wH.session with phase := .constCurrent } }, _, _, rfl, rfl, (by decide)⟩,
   ⟨{ wH with
     link := { wH.link with
       state := .linked, exchange := some {
         kind := .evacStart, frame := [], enable := true, idleLimit := wH.now + 3,
         sentAt := some (wH.now - 3000000), receiving := true } },
     session := { wH.session with phase := .constCurrent } }, _, rfl, (by decide)⟩,
   ⟨{ wH with
     link := { wH.link with
       state := .linked, exchange := some {
         kind := .setpoint, frame := [], enable := true, idleLimit := wH.now + 3,
         sentAt := some (wH.now - 3000000), receiving := true } },
     session := { wH.session with phase := .constCurrent } }, _, _, rfl, rfl, (by decide)⟩,
   ⟨{ wH with
     link := { wH.link with
       state := .linked, exchange := some {
         kind := .setpoint, frame := [], enable := true, idleLimit := wH.now + 3,
         sentAt := some (wH.now - 3000000), receiving := true } },
     session := { wH.session with phase := .constCurrent } }, [], _, _, rfl, rfl, (by decide)⟩,
   ⟨{ wH with
     link := { wH.link with
       state := .fault, exchange := some {
         kind := .ident, frame := [], enable := true, idleLimit := wH.now + 3,
         sentAt := some (wH.now - 3000000), receiving := false } },
     session := { wH.session with phase := .constCurrent } }, _, _, rfl, rfl, (by decide)⟩,
   ⟨{ wH with
     link := { wH.link with
       state := .linked, failures := 2,
       exchange := some {
         kind := .evacStart, frame := [], enable := true, idleLimit := wH.now + 3,
         sentAt := some (wH.now - 3000000), receiving := true } }, session := { wH.session with phase := .done } }, _,
     rfl, (by decide)⟩,
   ⟨{ wH with
     link := { wH.link with
       state := .linked, failures := 2,
       exchange := some {
         kind := .setpoint, frame := [], enable := true, idleLimit := wH.now + 3,
         sentAt := some (wH.now - 3000000), receiving := true } },
     session := { wH.session with phase := .constVoltage } }, _, rfl, (by decide)⟩,
   ⟨{ wH with
     link := { wH.link with
       state := .identifying, failures := 2,
       exchange := some {
         kind := .ident, frame := [], enable := false, idleLimit := wH.now + 3,
         sentAt := some (wH.now - 3000000), receiving := true } },
     conds := [{ kind := .dockLinkFault, active := true, first := 1, last := 2, occurrences := 3, detail := none }],
     session := { wH.session with phase := .qualify } }, _, rfl, (by decide)⟩,
   ⟨{ wH with
     link := { wH.link with
       state := .linked, failures := 2,
       exchange := some {
         kind := .evacStart, frame := [], enable := true, idleLimit := wH.now + 3, sentAt := none,
         receiving := false } },
     session := { wH.session with phase := .done } },
     .linkIdleTimeout, _, .timeout, _, rfl, ⟨rfl, rfl, rfl⟩, (by decide)⟩,
   ⟨{ wH with
     link := { wH.link with
       state := .linked, failures := 2,
       exchange := some {
         kind := .setpoint, frame := [], enable := true, idleLimit := wH.now + 3, sentAt := some (wH.now - 3000000),
         receiving := false } },
     session := { wH.session with phase := .constVoltage } },
     .responseTimeout, _, .timeout, _, rfl, ⟨_, rfl, rfl, rfl, rfl⟩, (by decide)⟩,
   ⟨{ wH with
     link := { wH.link with
       state := .identifying, failures := 2,
       exchange := some {
         kind := .ident, frame := [], enable := true, idleLimit := wH.now + 3, sentAt := some (wH.now - 3000000),
         receiving := true } },
     session := { wH.session with phase := .qualify },
     conds := [{ kind := .dockLinkFault, active := true, first := 1, last := 2, occurrences := 3, detail := none }] },
     .linkResponseInvalid [] false, _, .badCheck, _, rfl, ⟨_, rfl, .inl rfl, .inl rfl, rfl, rfl⟩, (by decide)⟩⟩

/-- Witnesses of the hypotheses of IdentSettlesTheLink, clause by clause. -/
theorem witness_IdentSettlesTheLink :
    (∃ (s : State) (p : IdentPayload) (e : Exchange) (u : Nat), s.link.exchange = some e ∧ e.sentAt = some u ∧
      (e.receiving = true ∨ s.now ≤ u + 20000000) ∧ e.kind = .ident ∧ p.revision = 1 ∧ s.link.state = .linked ∧
      s.link.evac = .none ∧ s.link.readopt = false) ∧
    (∃ (s : State) (p : IdentPayload) (e : Exchange) (u : Nat), s.link.exchange = some e ∧ e.sentAt = some u ∧
      (e.receiving = true ∨ s.now ≤ u + 20000000) ∧ e.kind = .ident ∧ p.revision = 1 ∧ (s.link.state = .identifying ∨
      s.link.state = .fault) ∧ s.link.evac = .none ∧ s.link.readopt = false ∧ s.role = .handle ∧ ReportsFit s ∧
      (s.session.phase ≠ .none ∨ s.session.restart.isSome = true)) ∧
    (∃ (s : State) (p : IdentPayload) (e : Exchange) (u : Nat), s.link.exchange = some e ∧ e.sentAt = some u ∧
      (e.receiving = true ∨ s.now ≤ u + 20000000) ∧ e.kind = .ident ∧ p.revision = 1 ∧ (s.link.state = .identifying ∨
      s.link.state = .fault) ∧ s.link.evac = .none ∧ s.link.readopt = false ∧ s.role = .handle ∧ ReportsFit s ∧
      s.session.phase = .none ∧ s.session.restart = none ∧ NoPortAlone s) ∧
    (∃ (s : State) (p : IdentPayload) (e : Exchange) (u : Nat), s.link.exchange = some e ∧ e.sentAt = some u ∧
      (e.receiving = true ∨ s.now ≤ u + 20000000) ∧ e.kind = .ident ∧ p.revision = 1 ∧ s.link.state = .linked ∧
      (s.link.evac ≠ .none ∨ s.link.readopt = true) ∧ (p.evac = .starting ∨ p.evac = .running) ∧ ReportsFit s) ∧
    (∃ (s : State) (p : IdentPayload) (e : Exchange) (u : Nat), s.link.exchange = some e ∧ e.sentAt = some u ∧
      (e.receiving = true ∨ s.now ≤ u + 20000000) ∧ e.kind = .ident ∧ p.revision = 1 ∧ s.link.state = .linked ∧
      s.link.evac = .requested ∧ evacLive p.evac = false) ∧
    (∃ (s : State) (p : IdentPayload) (e : Exchange) (u : Nat), s.link.exchange = some e ∧ e.sentAt = some u ∧
      (e.receiving = true ∨ s.now ≤ u + 20000000) ∧ e.kind = .ident ∧ p.revision = 1 ∧ s.link.state = .linked ∧
      (s.link.evac = .running ∨ (s.link.evac = .none ∧ s.link.readopt = true)) ∧ evacLive p.evac = false ∧ ReportsFit
      s) ∧
    (∃ (s : State) (p : IdentPayload) (e : Exchange) (u : Nat), s.link.exchange = some e ∧ e.sentAt = some u ∧
      (e.receiving = true ∨ s.now ≤ u + 20000000) ∧ e.kind = .ident ∧ p.revision = 1 ∧ (s.link.state = .identifying ∨
      s.link.state = .fault) ∧ (s.link.evac ≠ .none ∨ s.link.readopt = true) ∧ (p.evac = .starting ∨ p.evac = .running)
      ∧ s.role = .handle ∧ ReportsFit s ∧ (s.session.phase ≠ .none ∨ s.session.restart.isSome = true)) ∧
    (∃ (s : State) (p : IdentPayload) (e : Exchange) (u : Nat), s.link.exchange = some e ∧ e.sentAt = some u ∧
      (e.receiving = true ∨ s.now ≤ u + 20000000) ∧ e.kind = .ident ∧ p.revision = 1 ∧ (s.link.state = .identifying ∨
      s.link.state = .fault) ∧ (s.link.evac = .running ∨ (s.link.evac = .none ∧ s.link.readopt = true)) ∧ evacLive
      p.evac = false ∧ s.role = .handle ∧ ReportsFit s ∧ (s.session.phase ≠ .none ∨ s.session.restart.isSome = true)) ∧
    (∃ (s : State) (p : IdentPayload) (e : Exchange) (u : Nat), s.link.exchange = some e ∧ e.sentAt = some u ∧
      (e.receiving = true ∨ s.now ≤ u + 20000000) ∧ e.kind = .ident ∧ p.revision = 1 ∧ (s.link.state = .identifying ∨
      s.link.state = .fault) ∧ s.link.evac = .requested ∧ evacLive p.evac = false ∧ s.role = .handle ∧ ReportsFit s ∧
      (s.session.phase ≠ .none ∨ s.session.restart.isSome = true)) ∧
    (∃ (s : State) (p : IdentPayload) (e : Exchange) (u : Nat), s.link.exchange = some e ∧ e.sentAt = some u ∧
      (e.receiving = true ∨ s.now ≤ u + 20000000) ∧ e.kind = .ident ∧ p.revision = 1 ∧ (s.link.state = .identifying ∨
      s.link.state = .fault) ∧ s.link.evac = .requested ∧ evacLive p.evac = false ∧ s.role = .handle ∧ ReportsFit s ∧
      s.session.phase = .none ∧ s.session.restart = none ∧ NoPortAlone s) ∧
    (∃ (s : State) (p : IdentPayload) (e : Exchange) (u : Nat), s.link.exchange = some e ∧ e.sentAt = some u ∧
      (e.receiving = true ∨ s.now ≤ u + 20000000) ∧ e.kind = .ident ∧ p.revision = 1 ∧ (s.link.state = .identifying ∨
      s.link.state = .fault) ∧ (s.link.evac ≠ .none ∨ s.link.readopt = true) ∧ (p.evac = .starting ∨ p.evac = .running)
      ∧ s.role = .handle ∧ ReportsFit s ∧ s.session.phase = .none ∧ s.session.restart = none ∧ NoPortAlone s) ∧
    (∃ (s : State) (p : IdentPayload) (e : Exchange) (u : Nat), s.link.exchange = some e ∧ e.sentAt = some u ∧
      (e.receiving = true ∨ s.now ≤ u + 20000000) ∧ e.kind = .ident ∧ p.revision = 1 ∧ (s.link.state = .identifying ∨
      s.link.state = .fault) ∧ (s.link.evac = .running ∨ (s.link.evac = .none ∧ s.link.readopt = true)) ∧ evacLive
      p.evac = false ∧ s.role = .handle ∧ ReportsFit s ∧ s.session.phase = .none ∧ s.session.restart = none ∧
      NoPortAlone s) ∧
    (∃ (s : State) (p : IdentPayload) (e : Exchange) (u : Nat), s.link.exchange = some e ∧ e.sentAt = some u ∧
      (e.receiving = true ∨ s.now ≤ u + 20000000) ∧ e.kind = .ident ∧ p.revision ≠ 1 ∧ s.link.state ≠ .fault ∧
      s.link.failures < 2) :=
  ⟨⟨{ wH with
    link := { wH.link with
      state := .linked, exchange := some {
        kind := .ident, frame := [], enable := true, idleLimit := wH.now + 3,
        sentAt := some (wH.now - 3000000), receiving := true } },
    session := { wH.session with phase := .constCurrent } }, {
      revision := 1, vMaxOut := 30000, iMaxOut := 2500, busLimit := 480, fitted := true, bagLevel := 6,
      bagFull := false, evac := .idle }, _, _, rfl, rfl, (by decide)⟩,
   ⟨{ wH with
     link := { wH.link with
       state := .fault, exchange := some {
         kind := .ident, frame := [], enable := true, idleLimit := wH.now + 3,
         sentAt := some (wH.now - 3000000), receiving := true } }, session := { wH.session with phase := .suspended },
     conds := [{
       kind := .dockLinkFault, active := true, first := 1, last := 2, occurrences := 255, detail := none }] },
     {
       revision := 1, vMaxOut := 30000, iMaxOut := 2500, busLimit := 480, fitted := true, bagLevel := 6,
       bagFull := false, evac := .idle }, _, _, rfl, rfl, (by decide)⟩,
   ⟨{ wH with
     link := { wH.link with
       state := .identifying, exchange := some {
         kind := .ident, frame := [], enable := true, idleLimit := wH.now + 3,
         sentAt := some (wH.now - 3000000), receiving := true } },
     conds := [{
       kind := .dockLinkFault, active := true, first := 1, last := 2, occurrences := 255, detail := none }] },
     {
       revision := 1, vMaxOut := 30000, iMaxOut := 2500, busLimit := 480, fitted := true, bagLevel := 6,
       bagFull := false, evac := .idle }, _, _, rfl, rfl, (by decide)⟩,
   ⟨{ wH with
     link := { wH.link with
       state := .linked, exchange := some {
         kind := .ident, frame := [], enable := true, idleLimit := wH.now + 3,
         sentAt := some (wH.now - 3000000), receiving := true }, readopt := true },
     session := { wH.session with phase := .constCurrent } }, {
       revision := 1, vMaxOut := 30000, iMaxOut := 2500, busLimit := 480, fitted := true, bagLevel := 6,
       bagFull := false, evac := .running }, _, _, rfl, rfl, (by decide)⟩,
   ⟨{ wH with
     link := { wH.link with
       state := .linked, exchange := some {
         kind := .ident, frame := [], enable := true, idleLimit := wH.now + 3,
         sentAt := some (wH.now - 3000000), receiving := true }, evac := .requested },
     session := { wH.session with phase := .constCurrent } }, {
       revision := 1, vMaxOut := 30000, iMaxOut := 2500, busLimit := 480, fitted := true, bagLevel := 6,
       bagFull := false, evac := .idle }, _, _, rfl, rfl, (by decide)⟩,
   ⟨{ wH with
     link := { wH.link with
       state := .linked, exchange := some {
         kind := .ident, frame := [], enable := true, idleLimit := wH.now + 3,
         sentAt := some (wH.now - 3000000), receiving := true }, readopt := true },
     session := { wH.session with phase := .constCurrent } }, {
       revision := 1, vMaxOut := 30000, iMaxOut := 2500, busLimit := 480, fitted := true, bagLevel := 6,
       bagFull := false, evac := .idle }, _, _, rfl, rfl, (by decide)⟩,
   ⟨{ wH with
     link := { wH.link with
       state := .identifying, exchange := some {
         kind := .ident, frame := [], enable := false, idleLimit := wH.now + 3,
         sentAt := some (wH.now - 3000000), receiving := true }, readopt := true },
     session := { wH.session with phase := .suspended } },
     { resetIdentity with revision := 1, evac := .running }, _, _, rfl, rfl, (by decide)⟩,
   ⟨{ wH with
     link := { wH.link with
       state := .identifying, exchange := some {
         kind := .ident, frame := [], enable := false, idleLimit := wH.now + 3,
         sentAt := some (wH.now - 3000000), receiving := true }, readopt := true },
     session := { wH.session with phase := .suspended } },
     { resetIdentity with revision := 1, evac := .done }, _, _, rfl, rfl, (by decide)⟩,
   ⟨{ wH with
     link := { wH.link with
       state := .identifying, evac := .requested, exchange := some {
         kind := .ident, frame := [], enable := true, idleLimit := wH.now + 3,
         sentAt := some (wH.now - 3000000), receiving := true } },
     session := { wH.session with phase := .suspended } },
     { resetIdentity with revision := 1, evac := .done }, _, _, rfl, rfl, (by decide)⟩,
   ⟨{ wH with
     link := { wH.link with
       state := .identifying, evac := .requested, exchange := some {
         kind := .ident, frame := [], enable := true, idleLimit := wH.now + 3,
         sentAt := some (wH.now - 3000000), receiving := true } },
     session := { wH.session with phase := .none } },
     { resetIdentity with revision := 1, evac := .idle }, _, _, rfl, rfl, (by decide)⟩,
   ⟨{ wH with
     link := { wH.link with
       state := .fault, readopt := true, exchange := some {
         kind := .ident, frame := [], enable := true, idleLimit := wH.now + 3,
         sentAt := some (wH.now - 3000000), receiving := true } },
     session := { wH.session with phase := .none },
     conds := [{ kind := .dockLinkFault, active := true, first := 1, last := 2, occurrences := 3, detail := none }] },
     { resetIdentity with revision := 1, evac := .starting }, _, _, rfl, rfl, (by decide)⟩,
   ⟨{ wH with
     link := { wH.link with
       state := .fault, evac := .running, exchange := some {
         kind := .ident, frame := [], enable := true, idleLimit := wH.now + 3,
         sentAt := some (wH.now - 3000000), receiving := true } },
     session := { wH.session with phase := .none },
     conds := [{ kind := .dockLinkFault, active := true, first := 1, last := 2, occurrences := 3, detail := none }] },
     { resetIdentity with revision := 1, evac := .idle }, _, _, rfl, rfl, (by decide)⟩,
   ⟨{ wH with
     link := { wH.link with
       state := .linked, exchange := some {
         kind := .ident, frame := [], enable := true, idleLimit := wH.now + 3,
         sentAt := some (wH.now - 3000000), receiving := true } },
     session := { wH.session with phase := .constCurrent } }, {
       revision := 0, vMaxOut := 30000, iMaxOut := 2500, busLimit := 480, fitted := true, bagLevel := 6,
       bagFull := false, evac := .idle }, _, _, rfl, rfl, (by decide)⟩⟩

/-- Witnesses of the hypotheses of DockResponsesAreTaken, clause by clause. -/
theorem witness_DockResponsesAreTaken :
    (∃ (s : State) (e : Exchange) (u : Nat), s.link.exchange = some e ∧ e.sentAt = some u ∧ (e.receiving = true ∨
      s.now ≤ u + 20000000) ∧ e.kind = .setpoint) ∧
    (∃ (s : State) (a : EvacAnswer) (e : Exchange) (u : Nat), s.link.exchange = some e ∧ e.sentAt = some u ∧
      (e.receiving = true ∨ s.now ≤ u + 20000000) ∧ e.kind = .evacStart ∧ (a = .accepted ∨ a = .refused .busy)) ∧
    (∃ (s : State) (r : EvacRefusal) (e : Exchange) (u : Nat), s.link.exchange = some e ∧ e.sentAt = some u ∧
      (e.receiving = true ∨ s.now ≤ u + 20000000) ∧ e.kind = .evacStart ∧ r ≠ .busy ∧ ReportsFit s) ∧
    (∃ (s : State) (d : EvacState) (e : Exchange) (u : Nat), s.link.exchange = some e ∧ e.sentAt = some u ∧
      (e.receiving = true ∨ s.now ≤ u + 20000000) ∧ e.kind = .evacQuery ∧ (s.link.evac ≠ .running ∨ d = .starting ∨ d
      = .running)) ∧
    (∃ (s : State) (d : EvacState) (e : Exchange) (u : Nat), s.link.exchange = some e ∧ e.sentAt = some u ∧
      (e.receiving = true ∨ s.now ≤ u + 20000000) ∧ e.kind = .evacQuery ∧ s.link.evac = .running ∧ evacLive d = false
      ∧ ReportsFit s) ∧
    (∃ (s : State) (e : Exchange) (u : Nat), s.link.exchange = some e ∧ e.sentAt = some u ∧ (e.receiving = true ∨
      s.now ≤ u + 20000000) ∧ e.kind = .evacStop) ∧
    (∃ (s : State) (e : Exchange) (u : Nat), s.link.exchange = some e ∧ e.sentAt = some u ∧ (e.receiving = true ∨ s.now
      ≤ u + 20000000) ∧ e.kind = .setpoint) ∧
    (∃ (s : State) (p : IdentPayload) (e : Exchange) (u : Nat), s.link.exchange = some e ∧ e.sentAt = some u ∧
      (e.receiving = true ∨ s.now ≤ u + 20000000) ∧ e.kind = .ident ∧ p.revision = 1) ∧
    (∃ (s : State) (e : Exchange) (u : Nat), s.link.exchange = some e ∧ e.sentAt = some u ∧ (e.receiving = true ∨ s.now
      ≤ u + 20000000) ∧ e.kind = .evacStart) ∧
    (∃ (s : State) (e : Exchange) (u : Nat), s.link.exchange = some e ∧ e.sentAt = some u ∧ (e.receiving = true ∨ s.now
      ≤ u + 20000000) ∧ e.kind = .evacQuery) ∧
    (∃ (s : State) (e : Exchange) (u : Nat), s.link.exchange = some e ∧ e.sentAt = some u ∧ (e.receiving = true ∨ s.now
      ≤ u + 20000000) ∧ e.kind = .evacStop) :=
  ⟨⟨{ wH with
    link := { wH.link with
      state := .linked, exchange := some {
        kind := .setpoint, frame := [], enable := true, idleLimit := wH.now + 3,
        sentAt := some (wH.now - 3000000), receiving := true } },
    session := { wH.session with phase := .constCurrent } }, _, _, rfl, rfl, (by decide)⟩,
   ⟨{ wH with
     link := { wH.link with
       state := .linked, exchange := some {
         kind := .evacStart, frame := [], enable := true, idleLimit := wH.now + 3,
         sentAt := some (wH.now - 3000000), receiving := true }, evac := .requested, stopPending := true },
     session := { wH.session with phase := .constCurrent } }, .accepted, _, _, rfl, rfl, (by decide)⟩,
   ⟨{ wH with
     link := { wH.link with
       state := .linked, exchange := some {
         kind := .evacStart, frame := [], enable := true, idleLimit := wH.now + 3,
         sentAt := some (wH.now - 3000000), receiving := true }, evac := .requested },
     session := { wH.session with phase := .constCurrent } }, .bagFull, _, _, rfl, rfl, (by decide)⟩,
   ⟨{ wH with
     link := { wH.link with
       state := .linked, exchange := some {
         kind := .evacQuery, frame := [], enable := true, idleLimit := wH.now + 3,
         sentAt := some (wH.now - 3000000), receiving := true }, evac := .requested },
     session := { wH.session with phase := .constCurrent } }, .idle, _, _, rfl, rfl, (by decide)⟩,
   ⟨{ wH with
     link := { wH.link with
       state := .linked, exchange := some {
         kind := .evacQuery, frame := [], enable := true, idleLimit := wH.now + 3,
         sentAt := some (wH.now - 3000000), receiving := true }, evac := .running },
     session := { wH.session with phase := .constCurrent } }, .idle, _, _, rfl, rfl, (by decide)⟩,
   ⟨{ wH with
     link := { wH.link with
       state := .linked, exchange := some {
         kind := .evacStop, frame := [], enable := true, idleLimit := wH.now + 3,
         sentAt := some (wH.now - 3000000), receiving := true }, stopPending := true },
     session := { wH.session with phase := .constCurrent } }, _, _, rfl, rfl, (by decide)⟩,
   ⟨{ wH with
     link := { wH.link with
       state := .linked, evac := .running, exchange := some {
         kind := .setpoint, frame := [], enable := true, idleLimit := wH.now + 3,
         sentAt := some (wH.now - 3000000), receiving := true } },
     session := { wH.session with phase := .constCurrent } }, _, _, rfl, rfl, (by decide)⟩,
   ⟨{ wH with
     link := { wH.link with
       state := .linked, evac := .running, exchange := some {
         kind := .ident, frame := [], enable := true, idleLimit := wH.now + 3,
         sentAt := some (wH.now - 3000000), receiving := true } },
     session := { wH.session with phase := .constCurrent } },
     { resetIdentity with revision := 1, evac := .done }, _, _, rfl, rfl, (by decide)⟩,
   ⟨{ wH with
     link := { wH.link with
       state := .linked, evac := .running, exchange := some {
         kind := .evacStart, frame := [], enable := true, idleLimit := wH.now + 3,
         sentAt := some (wH.now - 3000000), receiving := true } },
     session := { wH.session with phase := .constCurrent } }, _, _, rfl, rfl, (by decide)⟩,
   ⟨{ wH with
     link := { wH.link with
       state := .linked, evac := .running, exchange := some {
         kind := .evacQuery, frame := [], enable := true, idleLimit := wH.now + 3,
         sentAt := some (wH.now - 3000000), receiving := true } },
     session := { wH.session with phase := .constCurrent } }, _, _, rfl, rfl, (by decide)⟩,
   ⟨{ wH with
     link := { wH.link with
       state := .linked, evac := .running, exchange := some {
         kind := .evacStop, frame := [], enable := true, idleLimit := wH.now + 3,
         sentAt := some (wH.now - 3000000), receiving := true } },
     session := { wH.session with phase := .constCurrent } }, _, _, rfl, rfl, (by decide)⟩⟩

/-- Witnesses of the hypotheses of DockLinkRequestsAreAnswered, clause by clause. -/
theorem witness_DockLinkRequestsAreAnswered :
    (∃ s : State, Listening s ∧ s.role = .handle ∧ s.link.evac ≠ .none) ∧
    (∃ s : State, Listening s ∧ s.role = .handle ∧ s.link.evac = .none ∧ (s.link.state ≠ .linked ∨
      s.link.identity.fitted = false)) ∧
    (∃ s : State, Listening s ∧ s.role = .handle ∧ s.link.evac = .none ∧ s.link.state = .linked ∧
      s.link.identity.fitted = true) ∧
    (∃ s : State, Listening s ∧ s.role = .handle ∧ s.link.evac = .none) ∧
    (∃ s : State, Listening s ∧ s.role = .handle ∧ s.link.evac = .requested ∧ s.link.pend.evacStart = true ∧
      ReportsFit s) ∧
    (∃ s : State, Listening s ∧ s.role = .handle ∧ (s.link.evac = .running ∨ (s.link.evac = .requested ∧
      s.link.pend.evacStart = false))) ∧
    (∃ (s : State) (c : Byte), Listening s ∧ (s.role = .dock ∨ c ≠ 0 ∨ s.dockCfg.chargingEnabled = false ∨
      s.session.phase.charging = false)) ∧
    (∃ (s : State) (c : Byte), Listening s ∧ s.role = .handle ∧ c = 0 ∧ s.dockCfg.chargingEnabled = true ∧
      s.session.phase.charging = true ∧ NoPortAlone s ∧ ReportsFit s) ∧
    (∃ s : State, Listening s ∧ s.role = .handle ∧ (suspendable s = false ∨ s.link.state ≠ .linked) ∧ ReportsFit s) ∧
    (∃ s : State, Listening s ∧ s.role = .handle ∧ suspendable s = true ∧ s.link.state = .linked ∧ NoPortAlone s ∧
      ReportsFit s) ∧
    (∃ s : State, Listening s ∧ s.role = .dock) :=
  ⟨⟨{ wH with link := { wH.link with evac := .running } }, (by decide)⟩,
   ⟨wH, (by decide)⟩,
   ⟨{ wH with link := { wH.link with state := .linked, identity := { wH.link.identity with fitted := true } } },
     (by decide)⟩,
   ⟨wH, (by decide)⟩,
   ⟨{ wH with link := { wH.link with evac := .requested, pend := { wH.link.pend with evacStart := true } } },
     (by decide)⟩,
   ⟨{ wH with link := { wH.link with evac := .requested, pend := { wH.link.pend with evacStart := false } } },
     (by decide)⟩,
   ⟨wH, 0xFF, (by decide)⟩,
   ⟨{ wH with session := { wH.session with phase := .topBalance } }, 0, (by decide)⟩,
   ⟨{ wH with link := { wH.link with docked := true }, session := { wH.session with phase := .done } },
     (by decide)⟩,
   ⟨{ wH with
     link := { wH.link with docked := true, state := .linked }, session := { wH.session with phase := .precharge } },
     (by decide)⟩,
   ⟨{ wH with role := .dock }, (by decide)⟩⟩

/-- Witnesses of the hypotheses of ValidRequestsAreAnsweredByTheDock, clause by clause. -/
theorem witness_ValidRequestsAreAnsweredByTheDock :
    (∃ s : State, s.fastUp = true ∧ s.role = .dock ∧ s.responder.arrival ≠ .abandoned) ∧
    (∃ s : State, s.fastUp = true ∧ s.role = .dock ∧ s.responder.arrival ≠ .abandoned) ∧
    (∃ s : State, s.fastUp = true ∧ s.role = .dock ∧ s.responder.arrival ≠ .abandoned ∧ (s.cycle.state = .starting ∨ s.cycle.state = .running ∨ s.evacFit
      = false ∨ condActive s .bagFull = true ∨ driveInhibited s = true)) ∧
    (∃ s : State, s.fastUp = true ∧ s.role = .dock ∧ s.responder.arrival ≠ .abandoned ∧ evacLive s.cycle.state = false ∧ s.evacFit = true ∧ condActive s
      .bagFull = false ∧ driveInhibited s = false ∧ ReportsFit s ∧ s.drive.state = .coasting) ∧
    (∃ s : State, s.fastUp = true ∧ s.role = .dock ∧ s.responder.arrival ≠ .abandoned ∧ evacLive s.cycle.state = false ∧ s.evacFit = true ∧ condActive s
      .bagFull = false ∧ driveInhibited s = false ∧ ReportsFit s ∧ s.drive.state = .stopped ∧ s.port.silent = false ∧
      NoPortAlone s) ∧
    (∃ s : State, s.fastUp = true ∧ s.role = .dock ∧ s.responder.arrival ≠ .abandoned) ∧
    (∃ s : State, s.fastUp = true ∧ s.role = .dock ∧ s.responder.arrival ≠ .abandoned ∧ evacLive s.cycle.state = false)
      ∧
    (∃ s : State, s.fastUp = true ∧ s.role = .dock ∧ s.responder.arrival ≠ .abandoned ∧ evacLive s.cycle.state = true ∧ s.drive.state.running = true ∧
      ReportsFit s) ∧
    (∃ s : State, s.fastUp = true ∧ s.role = .dock ∧ s.responder.arrival ≠ .abandoned ∧ evacLive s.cycle.state = true ∧ s.drive.state.running = false ∧
      ReportsFit s) ∧
    (∃ (s : State) (c : Instr) (k : Exch) (p : List Byte), linkCommand c = some (k, p) ∧ s.fastUp = true ∧ s.role =
      .dock ∧ s.responder.arrival = .abandoned) :=
  ⟨⟨{ wH with role := .dock }, (by decide)⟩,
   ⟨{ wH with role := .dock, responder := { wH.responder with present := true } }, (by decide)⟩,
   ⟨{ wH with now := 5000000001, role := .dock, evacFit := false }, (by decide)⟩,
   ⟨{ wH with
     role := .dock, evacFit := true, cycle := { wH.cycle with state := .done },
     drive := { wH.drive with state := .coasting } }, (by decide)⟩,
   ⟨{ wH with role := .dock, evacFit := true, cycle := { wH.cycle with state := .done } }, (by decide)⟩,
   ⟨{ wH with role := .dock, cycle := { wH.cycle with state := .running } }, (by decide)⟩,
   ⟨{ wH with role := .dock, cycle := { wH.cycle with state := .done } }, (by decide)⟩,
   ⟨{ wH with
     role := .dock, cycle := { wH.cycle with state := .starting },
     drive := { wH.drive with state := .spinUp, duty := 77 } }, (by decide)⟩,
   ⟨{ wH with
     role := .dock, cycle := { wH.cycle with state := .starting }, drive := { wH.drive with state := .coasting } },
     (by decide)⟩,
   ⟨{ wD with responder := { wD.responder with arrival := .abandoned } }, .identRequest, _, _, rfl, (by decide)⟩⟩

/-- Witnesses of the hypotheses of ResponsesAreSentOrAbandoned, clause by clause. -/
theorem witness_ResponsesAreSentOrAbandoned :
    (∃ (s : State) (r : Response), s.responder.response = some r ∧ r.sending = false) ∧
    (∃ (s : State) (r : Response), s.responder.response = some r ∧ r.sending = true ∧ s.now < r.startAt +
      r.frame.length * 1562500 / 3) ∧
    (∃ s : State, s.responder.response = none) ∧
    (∃ (s : State) (r : Response), s.responder.response = some r ∧ r.sending = false) ∧
    (∃ (s : State) (f : List Byte) (ok : Bool) (r : Response), s.responder.response = some r ∧ s.fastUp = true ∧ s.role
      = .dock ∧ s.responder.arrival ≠ .abandoned ∧ requestOf f ok = none ∧ r.sending = true ∧ s.now < r.startAt +
      r.frame.length * 1562500 / 3) ∧
    (∃ (s : State) (f : List Byte) (ok : Bool), s.fastUp = true ∧ s.role = .dock ∧ requestOf f ok = none ∧
      s.responder.response = none) ∧
    (∃ (s : State) (f : List Byte) (ok : Bool), s.fastUp = true ∧ s.role = .dock ∧ requestOf f ok = none ∧
      s.responder.arrival = .abandoned) ∧
    (∃ (s : State) (f : List Byte) (ok : Bool), s.fastUp = true ∧ s.role = .dock ∧ requestOf f ok = none ∧ ∃ r ∈
      s.responder.response, r.sending = false) ∧
    (∃ s : State, s.fastUp = false) ∧
    (∃ s : State, s.role = .handle) ∧
    (∃ (c : Instr) (k : Exch) (p : List Byte), linkCommand c = some (k, p)) ∧
    (∃ s : State, s.link.exchange = none ∧ s.fastUp = true ∧ s.role = .dock) :=
  ⟨⟨{ wH with
    role := .dock,
    responder := { wH.responder with
      response := some { frame := [0xA5, 0x44, 0x03, 0, 0, 0, 0], startAt := wH.now - 0, sending := false } } }, _,
    rfl, (by decide)⟩,
   ⟨{ wH with
     role := .dock,
     responder := { wH.responder with
       response := some { frame := [0xA5, 0x44, 0x03, 0, 0, 0, 0], startAt := wH.now - 1000, sending := true } } }, _,
     rfl, (by decide)⟩,
   ⟨{ wH with role := .dock }, (by decide)⟩,
   ⟨{ wH with
     role := .dock,
     responder := { wH.responder with
       response := some { frame := [0xA5, 0x44, 0x03, 0, 0, 0, 0], startAt := wH.now - 1000, sending := false } } },
     _, rfl, (by decide)⟩,
   ⟨{ wH with
     role := .dock,
     responder := { wH.responder with
       response := some { frame := [0xA5, 0x44, 0x03, 0, 0, 0, 0], startAt := wH.now - 1000, sending := true } } }, [0xA5], true, _, rfl, (by decide)⟩,
   ⟨wD, [], true, (by decide)⟩,
   ⟨{ wD with responder := { wD.responder with arrival := .abandoned } }, [], true, (by decide)⟩,
   ⟨{ wD with
     responder := { wD.responder with
       response := some { frame := [0xA5, 0x44, 0x03, 0, 0, 0, 0], startAt := wD.now, sending := false } } }, [], true,
     (by decide), (by decide), (by decide), _, rfl, rfl⟩,
   ⟨{ wH with power := { wH.power with fast := .off } }, (by decide)⟩,
   ⟨wH, rfl⟩,
   ⟨.setpointRequest true 29400 2000, _, _, rfl⟩,
   ⟨wD, (by decide)⟩⟩

/-- Witnesses of the hypotheses of TheDockLosesAndFindsTheStick, clause by clause. -/
theorem witness_TheDockLosesAndFindsTheStick :
    (∃ s : State, (s.up = false ∨ s.role = .handle)) ∧
    (∃ s : State, s.up = true ∧ s.role = .dock) ∧
    (∃ s : State, s.up = true ∧ s.role = .dock) ∧
    (∃ (s : State) (d : Nat), s.responder.candidate = some d ∧ s.responder.present = false) ∧
    (∃ (s : State) (d : Nat), s.responder.keepAlive = some d ∧ s.role = .dock ∧ evacLive s.cycle.state = false) ∧
    (∃ (s : State) (d : Nat), s.responder.keepAlive = some d ∧ s.role = .dock ∧ evacLive s.cycle.state = true ∧
      s.drive.state.running = true ∧ ReportsFit s) ∧
    (∃ (s : State) (d : Nat), s.responder.keepAlive = some d ∧ s.role = .dock ∧ evacLive s.cycle.state = true ∧
      s.drive.state.running = false ∧ ReportsFit s) ∧
    (∃ (s : State) (d : Nat), s.responder.candidate = some d ∧ s.role = .dock ∧ s.responder.present = true ∧ evacLive
      s.cycle.state = false) ∧
    (∃ (s : State) (d : Nat), s.responder.candidate = some d ∧ s.role = .dock ∧ s.responder.present = true ∧ evacLive
      s.cycle.state = true ∧ s.drive.state.running = true ∧ ReportsFit s) ∧
    (∃ (s : State) (d : Nat), s.responder.candidate = some d ∧ s.role = .dock ∧ s.responder.present = true ∧ evacLive
      s.cycle.state = true ∧ s.drive.state.running = false ∧ ReportsFit s) ∧
    (∃ (s : State) (d : Nat), s.cycle.timer = some d ∧ s.role = .dock ∧ s.drive.state.running = true ∧ ReportsFit s) :=
  ⟨⟨wH, (by decide)⟩,
   ⟨{ wH with role := .dock, responder := { wH.responder with candidate := some 5 } }, (by decide)⟩,
   ⟨{ wH with role := .dock }, (by decide)⟩,
   ⟨{ wH with role := .dock, responder := { wH.responder with candidate := some (wH.now + 3) } }, _, rfl,
     (by decide)⟩,
   ⟨{ wH with
     role := .dock, responder := { wH.responder with keepAlive := some (wH.now + 4) },
     cycle := { wH.cycle with state := .aborted } }, _, rfl, (by decide)⟩,
   ⟨{ wH with
     role := .dock, responder := { wH.responder with keepAlive := some (wH.now + 4) },
     cycle := { wH.cycle with state := .starting }, drive := { wH.drive with state := .spinUp, duty := 77 } }, _, rfl,
     (by decide)⟩,
   ⟨{ wH with
     role := .dock, responder := { wH.responder with keepAlive := some (wH.now + 4) },
     cycle := { wH.cycle with state := .starting }, drive := { wH.drive with state := .coasting } }, _, rfl,
     (by decide)⟩,
   ⟨{ wH with
     role := .dock, responder := { wH.responder with present := true, candidate := some (wH.now + 4) },
     cycle := { wH.cycle with state := .aborted } }, _, rfl, (by decide)⟩,
   ⟨{ wH with
     role := .dock, responder := { wH.responder with present := true, candidate := some (wH.now + 4) },
     cycle := { wH.cycle with state := .starting }, drive := { wH.drive with state := .spinUp, duty := 77 } }, _, rfl,
     (by decide)⟩,
   ⟨{ wH with
     role := .dock, responder := { wH.responder with present := true, candidate := some (wH.now + 4) },
     cycle := { wH.cycle with state := .starting }, drive := { wH.drive with state := .coasting } }, _, rfl,
     (by decide)⟩,
   ⟨{ wH with
     role := .dock, cycle := { wH.cycle with state := .running, timer := some (wH.now + 4) },
     drive := { wH.drive with state := .regulate, duty := 77 } }, _, rfl, (by decide)⟩⟩

/-- Witnesses of the hypotheses of OutputPeriodsMoveTheDuty, clause by clause. -/
theorem witness_OutputPeriodsMoveTheDuty :
    (∃ (s : State) (d : Nat),
      let s1 := ({ s with now := max s.now d } : State)
      s.output.period = some d ∧ s.role = .dock ∧ NoPortAlone s ∧ (s.chan .dockV).valid = true ∧
      (s.chan .outI).valid = true ∧ (s1.age (s.chan .dockV).time < 2 ∧ s1.age (s.chan .outI).time < 2) ∧
      (s.chan .dockV).value ≤ s.output.vLim + 500) ∧
    (∃ (s : State) (d : Nat),
      let s1 := ({ s with now := max s.now d } : State)
      s.output.period = some d ∧ s.role = .dock ∧ NoPortAlone s ∧ (s.chan .dockV).valid = true ∧
      (s.chan .outI).valid = true ∧ (s1.age (s.chan .dockV).time < 2 ∧ s1.age (s.chan .outI).time < 2) ∧
      s.output.vLim + 500 < (s.chan .dockV).value ∧ condActive s .outputOvervolt = false ∧
      s.power.standbyPending = false ∧ ReportsFit s) ∧
    (∃ (s : State) (d : Nat),
      let s1 := ({ s with now := max s.now d } : State)
      s.output.period = some d ∧ s.role = .dock ∧ NoPortAlone s ∧
      ¬
        ((s.chan .dockV).valid = true ∧ (s.chan .outI).valid = true ∧
         (s1.age (s.chan .dockV).time < 2 ∧ s1.age (s.chan .outI).time < 2))) ∧
    (∃ s : State, s.output.permission = true ∧ 9 ≤ s.output.stale ∧ ((s.chan .dockV).valid = false ∨ (s.chan
      .outI).valid = false ∨ 2 ≤ s.age (s.chan .dockV).time ∨ 2 ≤ s.age (s.chan .outI).time)) ∧
    (∃ (s : State) (d : Nat), s.output.recovery = some d ∧ NoPortAlone s) ∧
    (∃ (s : State) (f : Conversion), s.seq.inFlight = some f ∧ s.fastUp = true ∧ s.role = .dock ∧ f.chan = .dockV ∧
      f.set.output = true ∧ f.set.pack = false ∧ f.set.dock = false ∧ condActive s .outputOvervolt = true ∧ ReportsFit
      s) :=
  ⟨⟨{ wH with
    role := .dock,
    output := { wH.output with
      period := some wH.now, permission := true, duty := 940, vLim := (wH.chan .dockV).value + (100) - 400,
      stale := 3 },
    seq := { wH.seq with
      chans := (wH.seq.chans.set 11 { wH.chan .dockV with valid := true, time := wH.partTime }).set 13
        { wH.chan .outI with valid := true, time := wH.partTime } } }, _, rfl, (by dsimp only; decide)⟩,
   ⟨{ wH with
     role := .dock,
     output := { wH.output with
       period := some wH.now, permission := true, duty := 940, vLim := (wH.chan .dockV).value - 501, stale := 3 },
     seq := { wH.seq with
       chans := (wH.seq.chans.set 11 { wH.chan .dockV with valid := true, time := wH.partTime }).set 13
         { wH.chan .outI with valid := true, time := wH.partTime } } }, _, rfl, (by dsimp only; decide)⟩,
   ⟨{ wH with
     role := .dock,
     output :=
       { wH.output with period := some wH.now, permission := true, duty := 940, vLim := 20000, stale := 7 + 2 },
     seq := { wH.seq with
       chans := (wH.seq.chans.set 11 { wH.chan .dockV with valid := true, time := wH.partTime - 2 }).set 13
         { wH.chan .outI with valid := true, time := wH.partTime } } }, _, rfl, (by dsimp only; decide)⟩,
   ⟨{ wH with
     role := .dock,
     output := { wH.output with period := some wH.now, permission := true, duty := 940, vLim := 20000, stale := 9 },
     seq := { wH.seq with
       chans := (wH.seq.chans.set 11 { wH.chan .dockV with valid := true, time := wH.partTime - 2 }).set 13
         { wH.chan .outI with valid := true, time := wH.partTime } } }, (by decide)⟩,
   ⟨{ wH with role := .dock, output := { wH.output with recovery := some (wH.now + 2) } }, _, rfl, (by decide)⟩,
   ⟨{ wD with
     conds := [{ kind := .outputOvervolt, active := true, first := 1, last := 2, occurrences := 3, detail := none }],
     output := { wD.output with recovery := some (wD.now + 2), vLim := 29400 },
     seq := { wD.seq with
       inFlight := some {
         chan := .dockV, set := noRequesters.add .output, count := 1, codes := nominalCodes, endsAt := wD.now + 50 } } },
     _, rfl, (by decide)⟩⟩

/-- Witnesses of the hypotheses of SupplySettingsMoveTheBudget, clause by clause. -/
theorem witness_SupplySettingsMoveTheBudget :
    (∃ (s : State) (b : BitVec 16),
      let bus := max 100 (min 600 (b.toNat : Int))
      Listening s ∧ s.role = .dock ∧ s.drive.state.running = true ∧ bus ≠ s.output.busLimit) ∧
    (∃ (s : State) (b : BitVec 16),
      let bus := max 100 (min 600 (b.toNat : Int))
      Listening s ∧ s.role = .dock ∧ (s.drive.state.running = false ∨ bus = s.output.busLimit)) ∧
    (∃ s : State, Listening s ∧ s.role = .handle) :=
  ⟨⟨{ wH with role := .dock, drive := { wH.drive with state := .regulate, duty := 99, pCeil := 111 } }, 0,
    (by dsimp only; decide)⟩,
   ⟨{ wH with role := .dock }, 0, (by dsimp only; decide)⟩,
   ⟨wH, (by decide)⟩⟩

/-- Witnesses of the hypotheses of PortReceivesFrames, clause by clause. -/
theorem witness_PortReceivesFrames :
    (∃ s : State, s.power.state = .active ∧ s.power.fast = .running ∧ byteLost s = false ∧ s.power.standbyPending = false ∧ s.port.rx =
      .hunt) ∧
    (∃ (s : State) (b : Byte), s.power.state = .active ∧ s.power.fast = .running ∧ byteLost s = false ∧ s.power.standbyPending = false ∧
      s.port.rx = .hunt ∧ b ≠ 0xC3) ∧
    (∃ (s : State) (b : Byte), s.power.state = .active ∧ s.power.fast = .running ∧ byteLost s = false ∧ s.power.standbyPending = false ∧
      s.port.rx = .length ∧ 2 ≤ b.toNat ∧ b.toNat ≤ 62) ∧
    (∃ (s : State) (b : Byte), s.power.state = .active ∧ s.power.fast = .running ∧ byteLost s = false ∧ s.power.standbyPending = false ∧
      s.port.rx = .length ∧ (b.toNat < 2 ∨ 62 < b.toNat)) ∧
    (∃ (s : State) (len : Nat) (bs : List Byte), s.power.state = .active ∧ s.power.fast = .running ∧ byteLost s = false ∧
      s.power.standbyPending = false ∧ s.port.rx = .body len bs ∧ bs.length < len) ∧
    (∃ (s : State) (b : Byte) (bs : List Byte), s.power.state = .active ∧ s.power.fast = .running ∧ byteLost s = false ∧
      s.power.standbyPending = false ∧ s.port.rx = .body bs.length bs ∧ ¬ ((bs ++ [b]).foldl (· + ·) (BitVec.ofNat 8
      bs.length) = 0)) ∧
    (∃ (s : State) (b : Byte) (bs : List Byte), s.power.state = .active ∧ s.power.fast = .running ∧
      s.power.standbyPending = false ∧ s.port.rx = .body bs.length bs ∧ ¬ ((bs ++ [b]).foldl (· + ·) (BitVec.ofNat 8
      bs.length) = 0)) ∧
    (∃ (s : State) (k tag : Byte) (p : List Byte),
      let l := [k, tag] ++ p
      s.power.state = .active ∧ s.power.fast = .running ∧ byteLost s = false ∧ s.port.rx = .body l.length l ∧ s.port.reply = none ∧
      s.port.buffer = [] ∧ (∀ n : ReqKind, n.byte = k → p.length ≠ n.payloadLen)) ∧
    (∃ (s : State) (k tag : Byte) (p : List Byte),
      let l := [k, tag] ++ p
      s.power.state = .active ∧ s.power.fast = .running ∧ byteLost s = false ∧ s.port.rx = .body l.length l ∧
      (s.port.reply.isSome = true ∨ s.port.buffer ≠ []) ∧ s.port.buffer.length < 2) ∧
    (∃ (s : State) (k tag : Byte) (p : List Byte),
      let l := [k, tag] ++ p
      s.power.state = .active ∧ s.power.fast = .running ∧ byteLost s = false ∧ s.port.rx = .body l.length l ∧ 2 ≤ s.port.buffer.length) ∧
    (∃ (s : State) (k tag : Byte) (p : List Byte),
      let l := [k, tag] ++ p
      s.power.state = .active ∧ s.power.fast = .running ∧ s.port.rx = .body l.length l ∧ s.port.reply = none ∧
      s.port.buffer = [] ∧ (∀ n : ReqKind, n.byte = k → p.length ≠ n.payloadLen)) ∧
    (∃ (s : State) (k tag : Byte) (p : List Byte),
      let l := [k, tag] ++ p
      s.power.state = .active ∧ s.power.fast = .running ∧ s.port.rx = .body l.length l ∧
      (s.port.reply.isSome = true ∨ s.port.buffer ≠ []) ∧ s.port.buffer.length < 2) ∧
    (∃ (s : State) (k tag : Byte) (p : List Byte),
      let l := [k, tag] ++ p
      s.power.state = .active ∧ s.power.fast = .running ∧ s.port.rx = .body l.length l ∧ 2 ≤ s.port.buffer.length) ∧
    (∃ (s : State) (w : Nat), s.port.wakeByte = some w ∧ s.now ≤ w) ∧
    (∃ (s : State) (d : Nat), s.port.gap = some d) ∧
    (∃ (s : State) (d : Nat), s.port.gap = some d ∧ s.power.standbyPending = false) ∧
    (∃ (s : State) (d : Nat), s.port.silence = some d ∧ s.drive.state.running = false) ∧
    (∃ (s : State) (d : Nat), s.port.silence = some d ∧ s.role = .handle ∧ s.power.standbyPending = false ∧ condActive
      s .portSilent = false ∧ s.drive.state.running = true ∧ ReportsFit s) ∧
    (∃ s : State, s.role = .handle) :=
  ⟨⟨wH, (by decide)⟩,
   ⟨wH, 0xFF, (by decide)⟩,
   ⟨{ wH with port := { wH.port with rx := .length } }, 2, (by decide)⟩,
   ⟨{ wH with port := { wH.port with rx := .length } }, 0xFF, (by decide)⟩,
   ⟨{ wH with port := { wH.port with rx := .body (1 : Nat) ([] : List Byte) } }, 1, [], (by decide)⟩,
   ⟨{ wH with port := { wH.port with rx := .body ([] : List Byte).length ([] : List Byte) } }, 0xFF, [], (by decide)⟩,
   ⟨{ wH with port := { wH.port with rx := .body ([] : List Byte).length ([] : List Byte) } }, 0xFF, [], (by decide)⟩,
   ⟨{ wH with
     port := { wH.port with
       rx := .body ([(0xFF : Byte), (0xFF : Byte)] ++ ([] : List Byte)).length ([(0xFF : Byte), (0xFF : Byte)] ++ ([]
         : List Byte)) } }, 0xFF, 0xFF, [], rfl, rfl, (by decide), rfl, rfl, rfl, fun n => by cases n <;> decide⟩,
   ⟨{ wH with
     port := { wH.port with
       rx := .body ([(0xFF : Byte), (0xFF : Byte)] ++ ([] : List Byte)).length ([(0xFF : Byte), (0xFF : Byte)] ++ ([]
         : List Byte)), reply := some {
         kind := 0x84, tag := 1, status := .ok, reportsPending := false, overrun := false, role := wH.role,
         payload := [] } } }, 0xFF, 0xFF, [], (by dsimp only; decide)⟩,
   ⟨{ wH with
     port := { wH.port with
       rx := .body ([(0xFF : Byte), (0xFF : Byte)] ++ ([] : List Byte)).length ([(0xFF : Byte), (0xFF : Byte)] ++ ([]
         : List Byte)), buffer := [⟨2, 4, 1, []⟩, ⟨2, 4, 2, []⟩] } }, 0xFF, 0xFF, [], (by dsimp only; decide)⟩,
   ⟨{ wH with
     port := { wH.port with
       rx := .body ([(0xFF : Byte), (0xFF : Byte)] ++ ([] : List Byte)).length ([(0xFF : Byte), (0xFF : Byte)] ++ ([]
         : List Byte)) } }, 0xFF, 0xFF, [], rfl, rfl, rfl, rfl, rfl, fun n => by cases n <;> decide⟩,
   ⟨{ wH with
     port := { wH.port with
       rx := .body ([(0xFF : Byte), (0xFF : Byte)] ++ ([] : List Byte)).length ([(0xFF : Byte), (0xFF : Byte)] ++ ([]
         : List Byte)), reply := some {
         kind := 0x84, tag := 1, status := .ok, reportsPending := false, overrun := false, role := wH.role,
         payload := [] } } }, 0xFF, 0xFF, [], (by dsimp only; decide)⟩,
   ⟨{ wH with
     port := { wH.port with
       rx := .body ([(0xFF : Byte), (0xFF : Byte)] ++ ([] : List Byte)).length ([(0xFF : Byte), (0xFF : Byte)] ++ ([]
         : List Byte)), buffer := [⟨2, 4, 1, []⟩, ⟨2, 4, 2, []⟩] } }, 0xFF, 0xFF, [], (by dsimp only; decide)⟩,
   ⟨{ wH with port := { wH.port with wakeByte := some (wH.now + 43402) } }, _, rfl, (by decide)⟩,
   ⟨{ wH with port := { wH.port with rx := .length, gap := some (wH.now + 5) } }, _, rfl⟩,
   ⟨{ wH with port := { wH.port with rx := .length, gap := some (wH.now + 5) } }, _, rfl, (by decide)⟩,
   ⟨{ wH with port := { wH.port with silence := some (wH.now + 5) } }, _, rfl, (by decide)⟩,
   ⟨{ wH with
     drive := { wH.drive with state := .regulate, duty := 400 },
     port := { wH.port with silence := some (wH.now + 5) } }, _, rfl, (by decide)⟩,
   ⟨wH, (by decide)⟩⟩

/-- Witnesses of the hypotheses of FrameBytesMakeTheRequest, clause by clause. -/
theorem witness_FrameBytesMakeTheRequest :
    (∃ (s : State) (c : Instr) (f : Frame), requestFrame c = some f ∧ s.power.state = .active ∧ s.power.fast =
      .running ∧ s.port.rx = .hunt ∧ s.port.gap = none) ∧
    (∃ (c : Instr) (f : Frame), requestFrame c = some f) :=
  ⟨⟨wH, .keepalive 0, _, rfl, (by decide)⟩,
   ⟨.keepalive 0, _, rfl⟩⟩

/-- Witnesses of the hypotheses of ReadRequestsAnswer, clause by clause. -/
theorem witness_ReadRequestsAnswer :
    (∃ s : State, Listening s) ∧
    (∃ s : State, Listening s) ∧
    (∃ s : State, Listening s) ∧
    (∃ (s : State) (b : Byte),
      let n :=
        (if b.toNat % 16 = 0 then 1
         else if b.toNat % 16 = 1 ∨ b.toNat % 16 = 2 then (if s.role = .handle then 2 else 1)
              else if b.toNat % 16 = 3 then 3 else if b.toNat % 16 = 4 then 1 else 0 : Nat)
      Listening s ∧ n ≤ b.toNat / 16) ∧
    (∃ (s : State) (b : Byte),
      let n :=
        (if b.toNat % 16 = 0 then 1
         else if b.toNat % 16 = 1 ∨ b.toNat % 16 = 2 then (if s.role = .handle then 2 else 1)
              else if b.toNat % 16 = 3 then 3 else if b.toNat % 16 = 4 then 1 else 0 : Nat)
      Listening s ∧ b.toNat / 16 < n) ∧
    (∃ s : State, Listening s) ∧
    (∃ s : State, Listening s ∧ s.role = .handle) ∧
    (∃ s : State, Listening s ∧ s.role = .dock) ∧
    (∃ s : State, Listening s ∧ s.role = .dock) ∧
    (∃ (s : State) (r : Reply), s.port.reply = some r) :=
  ⟨⟨wH, (by decide)⟩,
   ⟨wH, (by decide)⟩,
   ⟨wH, (by decide)⟩,
   ⟨wH, 0xFF, (by dsimp only; decide)⟩,
   ⟨wH, 0, (by dsimp only; decide)⟩,
   ⟨wH, (by decide)⟩,
   ⟨wH, (by decide)⟩,
   ⟨{ wH with role := .dock }, (by decide)⟩,
   ⟨{ wH with role := .dock }, (by decide)⟩,
   ⟨{ wH with
     port := { wH.port with
       reply := some {
         kind := 0x84, tag := 1, status := .stale, reportsPending := true, overrun := false,
         role := wH.role, payload := [1, 2, 200] } } }, _, rfl⟩⟩

/-- Witnesses of the hypotheses of RequestsWaitAndAreTakenInOrder, clause by clause. -/
theorem witness_RequestsWaitAndAreTakenInOrder :
    (∃ (s : State) (c : Instr) (f : Frame), requestFrame c = some f ∧ Listening s ∧ wrongRole f.kind s.role = true) ∧
    (∃ (s : State) (c : Instr) (f : Frame), requestFrame c = some f ∧ s.power.state = .active ∧ s.power.fast =
      .running ∧ byteLost s = false ∧ s.port.rx = .hunt ∧ (s.port.reply.isSome = true ∨ s.port.buffer ≠ []) ∧ s.port.buffer.length < 2) ∧
    (∃ (s : State) (c : Instr) (f : Frame), requestFrame c = some f ∧ s.power.state = .active ∧ s.power.fast =
      .running ∧ byteLost s = false ∧ s.port.rx = .hunt ∧ 2 ≤ s.port.buffer.length) ∧
    (∃ (s : State) (c : Instr) (f : Frame), requestFrame c = some f ∧ (s.power.state ≠ .active ∨ s.power.fast ≠
      .running ∨ s.port.rx ≠ .hunt)) ∧
    (∃ (s : State) (r : Reply), s.port.reply = some r ∧ (r.kind ≠ 0xE1 ∨ r.status ≠ .ok) ∧ s.power.standbyPending =
      false ∧ s.port.buffer = []) ∧
    (∃ (s : State) (g : Frame) (rest : List Frame) (r : Reply), s.port.reply = some r ∧ (r.kind ≠ 0xE1 ∨ r.status ≠
      .ok) ∧ s.port.buffer = g :: rest) ∧
    (∃ (s : State) (c : Instr) (g : Frame) (rest : List Frame) (r : Reply), requestFrame c = some g ∧ s.port.reply =
      some r ∧ (r.kind ≠ 0xE1 ∨ r.status ≠ .ok) ∧ s.power.standbyPending = false ∧ s.port.buffer = g :: rest) ∧
    (∃ (s : State) (c : Instr) (g : Frame), requestFrame c = some g ∧ Listening s) :=
  ⟨⟨{ wH with role := .dock }, .run 0 0 4, _, rfl, (by decide)⟩,
   ⟨{ wH with
     port := { wH.port with
       reply := some {
         kind := 0x84, tag := 1, status := .ok, reportsPending := false, overrun := false, role := wH.role,
         payload := [] } } }, .keepalive 0, _, rfl, (by decide)⟩,
   ⟨{ wH with port := { wH.port with buffer := [⟨2, 4, 1, []⟩, ⟨2, 4, 2, []⟩] } }, .keepalive 0, _, rfl, (by decide)⟩,
   ⟨{ wH with port := { wH.port with rx := .length } }, .keepalive 0, _, rfl, (by decide)⟩,
   ⟨{ wH with
     port := { wH.port with
       reply := some {
         kind := 0x84, tag := 1, status := .ok, reportsPending := false, overrun := false, role := wH.role,
         payload := [] } } }, _, rfl, (by decide)⟩,
   ⟨{ wH with
     port := { wH.port with
       buffer := ({ len := 2, kind := 4, tag := 0, payload := [] } : Frame) :: ([] : List Frame),
       overrun := true,
       reply := some {
         kind := 0x84, tag := 1, status := .ok, reportsPending := false, overrun := false, role := wH.role,
         payload := [] } } }, { len := 2, kind := 4, tag := 0, payload := [] }, [], _, rfl, (by decide)⟩,
   ⟨{ wH with
     port := { wH.port with
       buffer := [⟨2, 4, 0, []⟩],
       reply := some {
         kind := 0x84, tag := 1, status := .ok, reportsPending := false, overrun := false, role := wH.role,
         payload := [] } } }, .keepalive 0, _, [], _, rfl, rfl, (by decide)⟩,
   ⟨wH, .keepalive 0, _, rfl, (by decide)⟩⟩

/-- Witnesses of the hypotheses of SleepStandbyAndWake, clause by clause. -/
theorem witness_SleepStandbyAndWake :
    (∃ s : State, Listening s ∧ s.role = .handle ∧ (s.drive.state ≠ .stopped ∨ (s.session.phase ≠ .none ∧
      s.session.phase ≠ .done) ∨ s.session.restart.isSome = true ∨ s.link.evac ≠ .none)) ∧
    (∃ s : State, Listening s ∧ s.role = .handle ∧ s.drive.state = .stopped ∧ (s.session.phase = .none ∨
      s.session.phase = .done) ∧ s.session.restart = none ∧ s.link.evac = .none) ∧
    (∃ s : State, s.power.state = .active ∧ s.power.standbyPending = true ∧ ReportsFit s) ∧
    (∃ s : State, s.power.state ≠ .standby ∧ s.power.standbyPending = false) ∧
    (∃ (s : State) (r : Reply), s.port.reply = some r ∧ (r.kind ≠ 0xE1 ∨ r.status ≠ .ok) ∧ s.role = .handle ∧
      s.power.fast = .running ∧ s.power.standbyPending = true ∧ s.port.buffer = [] ∧ s.monitor.periodMs ≠ 2000 ∧ s.now
      < s.monitor.lastExpiry + 2000000000) ∧
    (∃ (s : State) (f : Conversion), s.seq.inFlight = some f ∧ s.power.state = .standby ∧ s.power.fast = .running ∧
      s.seq.held = true ∧ f.set.pack = false) ∧
    (∃ s : State, s.power.state = .standby ∧ s.power.fast = .off ∧ s.power.waiting = []) ∧
    (∃ s : State, s.power.state = .standby ∧ Waiting.hostLine ∈ s.power.waiting) ∧
    (∃ (s : State) (d : Nat), s.motor.candidate = some d ∧ s.power.state = .standby ∧ s.power.fast = .off ∧
      s.power.waiting = [] ∧ s.pins.trig = true) ∧
    (∃ (s : State) (d : Nat), s.link.candidate = some d ∧ s.power.state = .standby ∧ s.power.fast = .off ∧
      s.power.waiting = [] ∧ s.link.docked = false) ∧
    (∃ (s : State) (d : Nat), s.link.candidate = some d ∧ s.power.state = .standby ∧ s.power.fast = .off ∧
      s.power.waiting = [] ∧ s.link.docked = true) ∧
    (∃ (s : State) (d : Nat), (match s.power.fast with | .settling u => some u | _ => none) = some d ∧ s.power.state =
      .standby ∧ s.role = .handle ∧ s.power.waiting = [.hostLine] ∧ NoPortAlone s ∧ ReportsFit s) ∧
    (∃ (s : State) (d : Nat), (match s.power.fast with | .settling u => some u | _ => none) = some d ∧ s.power.state =
      .standby ∧ s.power.waiting = [] ∧ s.seq.queue ≠ [] ∧ s.seq.held = false ∧ s.seq.inFlight.isSome = true) ∧
    (∃ (s : State) (d i : Nat) (e : Entry), (match s.power.fast with | .settling u => some u | _ => none) = some d ∧
      s.seq.queue[i]? = some e ∧ s.power.state = .standby ∧ s.power.waiting = [] ∧ s.seq.held = false ∧ s.seq.inFlight =
      none ∧ Chosen i e s) :=
  ⟨⟨{ wH with drive := { wH.drive with state := .coasting }, session := { wH.session with phase := .done } },
    (by decide)⟩,
   ⟨{ wH with session := { wH.session with phase := .done } }, (by decide)⟩,
   ⟨{ wH with power := { wH.power with standbyPending := true } }, (by decide)⟩,
   ⟨wH, (by decide)⟩,
   ⟨{ wH with
     power := { wH.power with standbyPending := true },
     port := { wH.port with
       reply := some {
         kind := 0xE0, tag := 1, status := .ok, reportsPending := false, overrun := false, role := wH.role,
         payload := [] } }, monitor := { wH.monitor with lastExpiry := wH.now - 5 } }, _, rfl, (by decide)⟩,
   ⟨{ wH with
     power := { wH.power with state := .standby },
     seq := { wH.seq with
       held := true, queue := [{ chan := .packV, set := noRequesters.add .port, cls := 2, count := 1 }],
       inFlight := some {
         chan := .cell1, set := noRequesters.add .port, count := 1, codes := nominalCodes, endsAt := wH.now } } }, _,
     rfl, (by decide)⟩,
   ⟨{ wH with power := { wH.power with state := .standby, fast := .off } }, (by decide)⟩,
   ⟨{ wH with power := { wH.power with state := .standby, fast := .off, waiting := [.press, .hostLine] } }, (by
     decide)⟩,
   ⟨{ wH with
     power := { wH.power with state := .standby, fast := .off },
     motor := { wH.motor with candidate := some (wH.now + 6) }, pins := { wH.pins with trig := true } }, _, rfl,
     (by decide)⟩,
   ⟨{ wH with
     power := { wH.power with state := .standby, fast := .off },
     link := { wH.link with candidate := some (wH.now + 6) } }, _, rfl, (by decide)⟩,
   ⟨{ wH with
     power := { wH.power with state := .standby, fast := .off },
     link := { wH.link with docked := true, candidate := some (wH.now + 6) } }, _, rfl, (by decide)⟩,
   ⟨{ wH with power := { wH.power with state := .standby, fast := .settling (wH.now + 8), waiting := [.hostLine] } },
     _, rfl, (by decide)⟩,
   ⟨{ wH with
     seq := { wH.seq with
       inFlight := some {
         chan := .ref,
         set := { drive := false, output := false, pack := false, charge := false, dock := false, port := true },
         count := 1, codes := nominalCodes, endsAt := wH.now + 50 },
       queue := [
         { chan := .cell1, set := { drive := false, output := false, pack := false, charge := false, dock := false, port := true }, cls := 2, count := 4 },
         { chan := .packV, set := { drive := true, output := false, pack := false, charge := false, dock := false, port := true }, cls := 0, count := 4 },
         { chan := .packI, set := { drive := true, output := false, pack := false, charge := false, dock := false, port := true }, cls := 0, count := 4 }] },
     power := { wH.power with state := .standby, fast := .settling (wH.now + 7) } }, _, rfl, (by decide)⟩,
   ⟨{ wH with
     seq := { wH.seq with
       queue := [
         { chan := .cell1, set := { drive := false, output := false, pack := false, charge := false, dock := false, port := true }, cls := 2, count := 4 },
         { chan := .packV, set := { drive := true, output := false, pack := false, charge := false, dock := false, port := true }, cls := 0, count := 4 },
         { chan := .packI, set := { drive := true, output := false, pack := false, charge := false, dock := false, port := true }, cls := 0, count := 4 }] },
     power := { wH.power with state := .standby, fast := .settling (wH.now + 7) } }, _, 1, _, rfl, rfl, (by decide)⟩⟩

/-- Witnesses of the hypotheses of ResetsAndStartUp, clause by clause. -/
theorem witness_ResetsAndStartUp :
    (∃ s : State, Listening s) ∧
    (∃ (s : State) (r : Reply), s.port.reply = some r ∧ r.kind = 0xE1 ∧ r.status = .ok) ∧
    (∃ s : State, s.power.state = .starting) :=
  ⟨⟨wH, (by decide)⟩,
   ⟨{ wH with
     port := { wH.port with
       reply := some {
         kind := 0xE1, tag := 1, status := .ok, reportsPending := false, overrun := false, role := wH.role,
         payload := [] } } }, _, rfl, (by decide)⟩,
   ⟨{ wH with power := { wH.power with state := .starting } }, (by decide)⟩⟩

/-- Witnesses of the hypotheses of EveryCommandCompletes, clause by clause. -/
theorem witness_EveryCommandCompletes :
    (∃ c : Instr, (∀ (role : Role) (fit : Bool), c ≠ .powerOnReset role fit ∧ c ≠ .brownOutReset role fit)) ∧
    (∃ (s : State) (c : Instr), (∀ (role : Role) (fit : Bool), c ≠ .powerOnReset role fit ∧ c ≠ .brownOutReset role
      fit) ∧ (∀ ok : Bool, c ≠ .startUpComplete ok) ∧ (c ≠ .replyEnd ∨ s.port.reply.any (fun r => r.kind == 0xE1) =
      false)) :=
  ⟨⟨.keepalive 0, fun _ _ => ⟨nofun, nofun⟩⟩,
   ⟨wH, .keepalive 0, fun _ _ => ⟨nofun, nofun⟩, fun _ => nofun, by decide⟩⟩

/-- Witness of the hypothesis of BalanceSetIsTheHighestThree: a candidate in the set, and one left out of it. -/
theorem witness_BalanceSetIsTheHighestThree :
    ∃ p : PackRec,
      (20 ≤ p.cells[4] - p.vmin ∧ 4000 ≤ p.cells[4] ∧ 5 ∈ balanceSet p) ∧
      (20 ≤ p.cells[6] - p.vmin ∧ 4000 ≤ p.cells[6] ∧ 7 ∉ balanceSet p) :=
  ⟨{ resetPackRec with cells := #v[4190, 4172, 4185, 4160, 4199, 4168, 4185], vmin := 4160 }, by decide⟩

/-- Witness of the hypothesis of StepTakesTheFrontCommand. -/
theorem witness_StepTakesTheFrontCommand : ∃ (c : Instr) (rest : List Instr) (s : State), s.pending = c :: rest :=
  ⟨.keepalive 0, [.stop 1], { wH with pending := [.keepalive 0, .stop 1] }, rfl⟩

/-- Witnesses of the hypotheses of IdleStepsPassTimeOnly: no deadline due, and an exchange that is to start. -/
theorem witness_IdleStepsPassTimeOnly :
    (∃ s : State, s.pending = [] ∧ startable s = none ∧ ∀ x ∈ deadlines s, ∀ d : Nat, x = some d → s.now < d) ∧
    (∃ s : State, s.pending = [] ∧ startable s ≠ none) :=
  ⟨⟨{ wH with port := { wH.port with silence := some (wH.now + 500000000) } }, (by decide), (by decide),
    (by
      have h : ∀ x ∈ deadlines { wH with port := { wH.port with silence := some (wH.now + 500000000) } },
          x = none ∨ x = some (wH.now + 500000000) := by decide
      intro x hx d hd
      rcases h x hx with h | h
      · rw [h] at hd; cases hd
      · rw [h] at hd; cases hd; decide)⟩,
   ⟨{ wH with
     link := { wH.link with docked := true, state := .identifying, pend := { noPending with ident := true } } },
     (by decide), (by decide)⟩⟩

/-- A running fan with a stop request at the front of the queue. -/
def wRun : State :=
  { wH with
    drive := { wH.drive with state := .regulate, duty := 700, armed := true, trigOn := true }
    motor := { wH.motor with pumpOn := true, period := some (wH.now + 1000000), spinUp := none }
    dirt := { wH.dirt with window := some 4, windowTimer := some (wH.now + 2000000), ring := [9, 8, 10], grade := 1 }
    pending := [.stop 7] }

/-- Witness of the hypotheses of DriveLawIsKept: a fan in REGULATE that a STOP reaches. -/
theorem witness_DriveLawIsKept : ∃ s t : State, s.drive.state = .regulate ∧ DriveLaw s ∧ step s = .next t :=
  ⟨wRun, _, rfl, (by unfold DriveLaw; decide), rfl⟩

/-- A dock whose output is on, with an output period at the front of the queue. -/
def wOut : State :=
  { wD with
    responder := { wD.responder with present := true, keepAlive := some (wD.now + 1000000000) }
    output :=
      { wD.output with
        permission := true
        vLim := 29400
        iRequested := 2000
        iApp := 2000
        duty := 400
        status := .on
        period := some (wD.now + 500000) }
    pending := [.outputPeriod] }

/-- Witnesses of the hypotheses of OutputLawsAreKept: an output that regulates. -/
theorem witness_OutputLawsAreKept :
    (∃ s t : State, s.role = .dock ∧ 0 < s.output.duty ∧ OutputLaw s ∧ step s = .next t) ∧
    (∃ s t : State, s.role = .dock ∧ BudgetLaw s ∧ step s = .next t) :=
  ⟨⟨wOut, _, rfl, (by decide), (by unfold OutputLaw; decide), rfl⟩,
   ⟨wOut, _, rfl, (by unfold BudgetLaw; decide), rfl⟩⟩

/-- A stick charging at constant voltage with a cell that bleeds, and the sweep timer's expiry at the front. -/
def wCv : State :=
  { wH with
    session := { wH.session with phase := .constVoltage, switchClosed := true, balance := [5, 1] }
    pack := { wH.pack with packT := 318 }
    pending := [.sweepTimerExpiry] }

/-- Witnesses of the hypotheses of ChargeLawsAreKept: a charge that balances. -/
theorem witness_ChargeLawsAreKept :
    (∃ s t : State, s.session.phase.charging = true ∧ ChargeLaw s ∧ step s = .next t) ∧
    (∃ s t : State, s.session.balance ≠ [] ∧ BalanceLaw s ∧ step s = .next t) :=
  ⟨⟨wCv, _, (by decide), (by unfold ChargeLaw; decide), rfl⟩,
   ⟨wCv, _, (by decide), (by unfold BalanceLaw; decide), rfl⟩⟩

/-- Witnesses of the hypotheses of SensingLawsAreKept: a graded run, and a full bin. -/
theorem witness_SensingLawsAreKept :
    (∃ s t : State, s.dirt.ring ≠ [] ∧ DirtLaw s ∧ step s = .next t) ∧
    (∃ s t : State, condActive s (fullKind s.role) = true ∧ FullLaw s ∧ step s = .next t) :=
  ⟨⟨wRun, _, (by decide), (by unfold DirtLaw; decide), rfl⟩,
   ⟨{ wH with
     conds := [{ kind := .binFull, active := true, first := 0, last := 0, occurrences := 1, detail := none }]
     fill := { wH.fill with debounced := 6 }
     pending := [.haltSensing 1] }, _, (by decide), (by unfold FullLaw; decide), rfl⟩⟩

/-- A stick whose sequencer, condition list, report queue and receive buffer hold something. -/
def wQueues : State :=
  { wH with
    conds := [{ kind := .motorStall, active := false, first := 0, last := 0, occurrences := 255, detail := none }]
    seq :=
      { wH.seq with
        queue :=
          [{ chan := .packV, set := noRequesters.add .pack, cls := 1, count := 4 },
           { chan := .dockV, set := noRequesters.add .port, cls := 2, count := 1 }] }
    reports := List.replicate 16 { kind := .started, sub := 0, time := 0, data := [] }
    port := { wH.port with buffer := [{ len := 2, kind := 0x04, tag := 0, payload := [] }] }
    counter := { wH.counter with q := 1400000, residual := -3599 }
    pending := [.keepalive 2] }

/-- Witnesses of the hypotheses of QueueLawsAreKept. -/
theorem witness_QueueLawsAreKept :
    (∃ s t : State, ConversionQueueLaw s ∧ step s = .next t) ∧
    (∃ s t : State, s.conds ≠ [] ∧ ConditionListLaw s ∧ step s = .next t) ∧
    (∃ s t : State, s.reports.length = 16 ∧ QueueLaw s ∧ step s = .next t) ∧
    (∃ s t : State, CounterLaw s ∧ step s = .next t) :=
  ⟨⟨wQueues, _, (by unfold ConversionQueueLaw; decide), rfl⟩,
   ⟨wQueues, _, (by decide), (by unfold ConditionListLaw; decide), rfl⟩,
   ⟨wQueues, _, (by decide), (by unfold QueueLaw; decide), rfl⟩,
   ⟨wQueues, _, (by unfold CounterLaw; decide), rfl⟩⟩

end Sys2Proof.Tests
end

section
/-! PROOFS. Suction demand and the power ceiling (chapter 2): clog detection's limits (R45 to R47) and the work of a control
period in SPIN_UP and REGULATE (R33, R38 to R42). -/

namespace Sys2Proof.Proofs.SuctionDemand

open Sys2Proof.Machine Sys2Proof.Laws

/-! ## Raises without a reaction (R129, R131, R134) -/

/-- A raise on the list with no standby pending: the record, its report, and nothing else (R131). -/
theorem listRaise_raised (k : CondKind) (d : Option Detail) (s : State) (hf : ReportsFit s)
    (hs : s.power.standbyPending = false) :
    Raised k d s (listRaise k d s) ∧ Queued s (listRaise k d s) [raisedReportOf k d s (listRaise k d s)] ∧
      ChangesOnly [.conds, .reports, .lost] s (listRaise k d s) := by
  have hframe := report_frame .conditionRaised k.code ([byteOf (raisedOcc k s.conds), boolByte d.isSome] ++ detailField d)
    (s.setConds (raisedList k d s.partTime s.conds))
  have hqueued := report_queued .conditionRaised k.code
    ([byteOf (raisedOcc k s.conds), boolByte d.isSome] ++ detailField d) (s.setConds (raisedList k d s.partTime s.conds)) hf
  have heq : listRaise k d s = report .conditionRaised k.code
      ([byteOf (raisedOcc k s.conds), boolByte d.isSome] ++ detailField d)
      (s.setConds (raisedList k d s.partTime s.conds)) :=
    cancelStandby_none .condition _ ((congrArg Power.standbyPending (hframe .power (by decide))).trans hs)
  rw [← heq] at hframe hqueued
  have hall : ChangesOnly [.conds, .reports, .lost] s (listRaise k d s) := changesOnly_seq (setConds_frame s _) hframe
  have htime : (listRaise k d s).partTime = s.partTime := partTime_frame hall (by decide)
  refine ⟨?_, ?_, hall⟩
  · have hconds : (listRaise k d s).conds = raisedList k d s.partTime s.conds := hframe .conds (by decide)
    unfold Raised
    rw [hconds, htime]
    unfold raisedList condOf mapCond
    cases s.conds.find? (fun r => r.kind == k) with
    | none => rfl
    | some c => simp
  · have hreport : raisedReportOf k d s (listRaise k d s) =
        { kind := .conditionRaised
          sub := k.code
          time := s.partTime
          data := [byteOf (raisedOcc k s.conds), boolByte d.isSome] ++ detailField d } := by
      have hocc (n : Nat) : ((min 255 (n + 1) : Nat) : Int) = min 255 ((n : Int) + 1) := by omega
      unfold raisedReportOf raisedOcc condOf
      rw [htime]
      cases s.conds.find? (fun r => r.kind == k) with
      | none => rfl
      | some c => simp only [hocc]
    rw [hreport]
    exact hqueued

/-- CLOG inhibits nothing (R129): its raise has no reaction. -/
theorem reactions_clog (s : State) : reactions .clog s = s := rfl

/-- CLOG raised while it is not ACTIVE is the record and the report alone. -/
theorem raise_clog (d : Option Detail) (s : State) (h : condActive s .clog = false) :
    raise .clog d s = listRaise .clog d s := by
  simp [raise, h, reactions_clog]

/-! ## The drive's record in the raise and the end of CLOG (R47) -/

/-- What the raise of CLOG can reach: it clears the counts, and cancels a standby that is pending (R191). -/
theorem raiseClog_frame (s : State) : ChangesOnly [.drive, .power, .conds, .reports, .lost] s (raiseClog s) := by
  unfold raiseClog raise
  exact changesOnly_seq (setDrive_frame s _)
    (changesOnly_ite (l := listBlocks) (fun _ => changesOnly_refl _ _) (fun _ => listRaise_frame _ _ _))

/-- The raise of CLOG clears the clog counts and changes nothing else of the drive. -/
theorem raiseClog_drive (s : State) : (raiseClog s).drive = { s.drive with suspect := 0, clear := 0 } := by
  have h : ChangesOnly listBlocks (s.setDrive { s.drive with suspect := 0, clear := 0 }) (raiseClog s) :=
    changesOnly_ite (fun _ => changesOnly_refl _ _) (fun _ => listRaise_frame _ _ _)
  exact h .drive (by decide)

/-- What the end of CLOG can reach; in dock role the output status follows (R166). -/
theorem endClog_frame (s : State) : ChangesOnly [.drive, .conds, .reports, .lost, .output] s (endClog s) :=
  changesOnly_seq (setDrive_frame s _) (endCond_frame .clog _)

/-- The end of CLOG clears the clog counts and changes nothing else of the drive. -/
theorem endClog_drive (s : State) : (endClog s).drive = { s.drive with suspect := 0, clear := 0 } :=
  endCond_frame .clog (s.setDrive { s.drive with suspect := 0, clear := 0 }) .drive (by decide)

/-! ## Clog detection's limits (R45 to R47) -/

/-- The conditions under which clog detection runs (R45). -/
theorem clogRuns_iff (fresh : Bool) (s : State) :
    clogRuns fresh s = true ↔
      fresh = true ∧ s.drive.nEff = s.drive.nTgt ∧ (levelUsed s).speed.tdiv 2 ≤ s.drive.nMeas := by
  simp [clogRuns, and_assoc]

/-- A clear period is not suspect (R46), P_exp never being negative. -/
theorem suspectNow_of_clear (s : State) (hp : 0 ≤ expectedNow s)
    (h : expectedNow s * ((levelUsed s).clogRatio + 100) ≤ s.drive.pMeas * 1000) : suspectNow s = false := by
  rw [Int.mul_add] at h
  simp only [suspectNow, decide_eq_false_iff_not]
  omega

/-- Where clog detection does not run, neither limit command does anything (R45, log entry 7). -/
theorem clogReached_notRunning (s : State) (h : s.drive.state ≠ .regulate ∨ clogRuns (driveFresh s) s = false) :
    clogSuspectReached s = s ∧ clogClearReached s = s := by
  rcases h with h | h <;> simp [clogSuspectReached, clogClearReached, h]

/-- The 150th suspect period with CLOG not ACTIVE raises it (R47). -/
theorem clogSuspectReached_raises (s : State) (hreg : s.drive.state = .regulate) (hrun : clogRuns (driveFresh s) s = true)
    (hact : condActive s .clog = false) (hsus : suspectNow s = true) (hcount : 149 ≤ s.drive.suspect) :
    clogSuspectReached s = raiseClog s := by
  simp [clogSuspectReached, hreg, hrun, hact, hsus, hcount]

/-- The 150th clear period with CLOG ACTIVE ends it (R47). -/
theorem clogClearReached_ends (s : State) (hreg : s.drive.state = .regulate) (hrun : clogRuns (driveFresh s) s = true)
    (hact : condActive s .clog = true) (hsus : suspectNow s = false) (hclr : clearNow s = true)
    (hcount : 149 ≤ s.drive.clear) : clogClearReached s = endClog s := by
  simp [clogClearReached, hreg, hrun, hact, hsus, hclr, hcount]

/-- Settles O10, by the case in which each command acts and the lemmas on the raise and the end of CLOG. -/
theorem clogLimitsRaiseAndEnd : Obligations.ClogLimitsRaiseAndEnd := by
  refine ⟨?_, ?_, ?_⟩
  · intro s n r pExp hreg hfresh heff hmeas hsb hfit hact hcount hsus
    have hrun : clogRuns (driveFresh s) s = true := (clogRuns_iff _ s).mpr ⟨hfresh, heff, hmeas⟩
    have heq := clogSuspectReached_raises s hreg hrun hact (decide_eq_true hsus) hcount
    have hraise : raiseClog s = listRaise .clog (some (.clog s.drive.pMeas pExp))
        (s.setDrive { s.drive with suspect := 0, clear := 0 }) := raise_clog _ _ hact
    obtain ⟨hraised, hqueued, hframe⟩ := listRaise_raised .clog (some (.clog s.drive.pMeas pExp))
      (s.setDrive { s.drive with suspect := 0, clear := 0 }) hfit hsb
    rw [← hraise] at hraised hqueued hframe
    exact ⟨raiseClog s, congrArg _ heq, hraised, hqueued, raiseClog_drive s, changesOnly_seq (setDrive_frame s _) hframe⟩
  · intro s n r pExp hreg hfresh heff hmeas hfit hact hcount hclr hpos
    have hrun : clogRuns (driveFresh s) s = true := (clogRuns_iff _ s).mpr ⟨hfresh, heff, hmeas⟩
    have heq := clogClearReached_ends s hreg hrun hact (suspectNow_of_clear s hpos hclr) (decide_eq_true hclr) hcount
    obtain ⟨hended, hqueued⟩ := endCond_active .clog (s.setDrive { s.drive with suspect := 0, clear := 0 }) hfit hact
    exact ⟨endClog s, congrArg _ heq, hended, hqueued, endClog_drive s, endClog_frame s⟩
  · intro s hoff
    have hidle : s.drive.state ≠ .regulate ∨ clogRuns (driveFresh s) s = false := by
      rw [← Bool.not_eq_true, clogRuns_iff]
      rcases hoff with h | h | h | h
      · exact .inl h
      · exact .inr (fun ⟨hfresh, _, _⟩ => by simp [h] at hfresh)
      · exact .inr (fun ⟨_, heff, _⟩ => h heff)
      · exact .inr (fun ⟨_, _, hmeas⟩ => Int.not_le.mpr h hmeas)
    obtain ⟨hsus, hclr⟩ := clogReached_notRunning s hidle
    exact ⟨⟨s, congrArg _ hsus, rfl⟩, ⟨s, congrArg _ hclr, rfl⟩⟩

/-! ## What the demand reads

The level in use, the terms of the ceiling and the age of the power channels do not change in a control period. -/

/-- A field outside a frame is unchanged. -/
theorem same_of_frame {l : List Block} {s t : State} (h : ChangesOnly l s t) (b : Block) (hb : b ∉ l := by decide) :
    b.same s t := h b hb

/-- The record of the level in use depends on the role, the settings, the mode and the dirt grade alone (R30). -/
theorem levelUsed_congr {s t : State} (hrole : t.role = s.role) (hdock : t.dockCfg = s.dockCfg)
    (hcfg : t.driveCfg = s.driveCfg) (hdirt : t.dirt = s.dirt) (hmode : t.drive.mode = s.drive.mode) :
    levelUsed t = levelUsed s := by
  simp only [levelUsed, levelRec, levelInUse, hrole, hdock, hcfg, hdirt, hmode]
  rfl

/-- The terms of the ceiling depend further on the feeding records and the condition list alone (R34 to R36). -/
theorem termsNow_congr {s t : State} (hlevel : levelUsed t = levelUsed s) (hrole : t.role = s.role)
    (hcfg : t.driveCfg = s.driveCfg) (hpack : t.pack = s.pack) (hsupply : t.supply = s.supply)
    (hconds : t.conds = s.conds) : termsNow t = termsNow s := by
  simp only [termsNow, feedValid, feedPackT, feedBridgeT, clogTerm, condActive, condOf, hlevel, hrole, hcfg, hpack,
    hsupply, hconds]
  rfl

/-- A period is fresh by the channels' records and the time alone (R20). -/
theorem driveFresh_congr {s t : State} (hnow : t.now = s.now) (hchan : t.seq.chans = s.seq.chans) :
    driveFresh t = driveFresh s := by
  simp only [driveFresh, State.chan, State.age, State.partTime, hnow, hchan]
  rfl

theorem arbiter_chans (s : State) : (arbiter s).seq.chans = s.seq.chans := by
  unfold arbiter
  split
  · split <;> rfl
  · rfl

theorem displace_chans (e : Entry) (s : State) : (displace e s).seq.chans = s.seq.chans := by
  unfold displace
  rw [report_same .seq _ _ _ _ (by decide)]
  rfl

/-- A placed request leaves the channels' records as they are (R121, R122). -/
theorem place_chans {c : Chan} {r : Requester} {n : Nat} {s t : State} (h : place c r n s = some t) :
    t.seq.chans = s.seq.chans := by
  unfold place at h
  split at h
  · cases h
    exact arbiter_chans _
  · split at h
    · cases h
      exact arbiter_chans _
    · split at h
      · cases h
      · split at h <;> cases h
        · exact (arbiter_chans _).trans (displace_chans _ s)
        · rfl

theorem post_chans (r : Requester) (s : State) (c : Chan) : (post r s c).seq.chans = s.seq.chans := by
  unfold post
  cases h : place c r (s.chan c).averaging s with
  | none => rfl
  | some t => exact place_chans h

theorem postAll_chans (r : Requester) (cs : List Chan) (s : State) : (postAll r cs s).seq.chans = s.seq.chans := by
  unfold postAll
  induction cs generalizing s with
  | nil => rfl
  | cons c cs ih => exact (ih _).trans (post_chans r s c)

/-! ## The least term (R38) -/

/-- The least term is in the list with its first occurrence, and no term is below it. -/
theorem leastTerm_spec (best : Int × Limit) (l : List (Int × Limit)) :
    (best :: l).find? (fun x => decide (x.1 = (leastTerm best l).1)) = some (leastTerm best l) ∧
      ∀ x ∈ best :: l, (leastTerm best l).1 ≤ x.1 := by
  induction l generalizing best with
  | nil => simp [leastTerm]
  | cons x rest ih =>
    obtain ⟨hfind, hle⟩ := ih (if x.1 < best.1 then x else best)
    rw [leastTerm]
    generalize leastTerm (if x.1 < best.1 then x else best) rest = m at hfind hle
    split at hfind <;> rename_i hx
    · simp only [if_pos hx] at hle
      have hm := hle x List.mem_cons_self
      refine ⟨?_, List.forall_mem_cons.mpr ⟨by omega, hle⟩⟩
      rw [List.find?_cons_of_neg (by simp; omega)]
      exact hfind
    · simp only [if_neg hx] at hle
      have hm := hle best List.mem_cons_self
      refine ⟨?_, ?_⟩
      · by_cases hb : best.1 = m.1
        · rw [List.find?_cons_of_pos (by simpa using hb)] at hfind ⊢
          exact hfind
        · rw [List.find?_cons_of_neg (by simpa using hb)] at hfind ⊢
          rw [List.find?_cons_of_neg (by simp; omega)]
          exact hfind
      · simp only [List.forall_mem_cons] at hle ⊢
        exact ⟨hle.1, by omega, hle.2⟩

/-- In both roles the level's term stands first in the reporting order (R38). -/
theorem termList_eq_cons (role : Role) (t : Terms) (bus : Int) :
    ∃ rest, termList role t bus = (t.level, .level) :: rest := by
  cases role <;> exact ⟨_, rfl⟩

/-- A ceiling computed by `ceilingOf` is the least of the role's terms, with the first term of that value (R38). -/
theorem ceilingLeast_of_ceilingOf {t : State}
    (h : (t.drive.pCeil, t.drive.limit) = ceilingOf t.role t.drive.terms t.output.busLimit) : CeilingLeast t := by
  obtain ⟨rest, hlist⟩ := termList_eq_cons t.role t.drive.terms t.output.busLimit
  have hleast : leastTerm (t.drive.terms.level, .level) rest = (t.drive.pCeil, t.drive.limit) := by
    rw [h, ceilingOf, hlist, leastTerm, if_neg (Int.lt_irrefl _)]
  have hspec := leastTerm_spec (t.drive.terms.level, .level) rest
  rw [hleast, ← hlist] at hspec
  exact hspec

/-! ## The duty and the ramp (R40 to R42) -/

/-- The ramp, with the two halves of R40 that meet at the target. -/
theorem ramp_eq (e n : Int) : ramp e n = if e < n then min (e + 400) n else max (e - 400) n := by
  unfold ramp
  split
  · rfl
  · split <;> omega

/-- The duty step by the three cases of R41: over the ceiling, within 5 W of it, and below. -/
theorem dutyStep_eq (p c e n : Int) :
    dutyStep p c e n =
      if c < p then -(min 40 (max 1 ((p - c).tdiv 4)))
      else if c - 5 ≤ p then min 0 (max (-20) ((e - n).tdiv 250))
      else max (-20) (min 20 ((e - n).tdiv 250)) := by
  unfold dutyStep clampInt
  generalize (e - n).tdiv 250 = x
  dsimp only
  split
  · rfl
  · split <;> split <;> omega

/-! ## The frame of a control period -/

/-- The fields a control period of a run that goes on can reach, beside the time and the period timer. -/
def periodBlocks : List Block :=
  [.drive, .dirt, .seq, .output, .cycle, .conds, .power, .watches, .reports, .lost]

/-- Work of a control period: its frame, and the bus power limit, which is a setting. -/
structure WithinPeriod (s t : State) : Prop where
  frame : ChangesOnly periodBlocks s t
  busLimit : t.output.busLimit = s.output.busLimit

theorem WithinPeriod.trans {s t u : State} (h₁ : WithinPeriod s t) (h₂ : WithinPeriod t u) : WithinPeriod s u :=
  ⟨changesOnly_trans h₁.frame h₂.frame, h₂.busLimit.trans h₁.busLimit⟩

/-- Work that does not reach the output record. -/
theorem WithinPeriod.of_frame {l : List Block} {s t : State} (h : ChangesOnly l s t)
    (hl : ∀ b ∈ l, b ∈ periodBlocks := by decide) (ho : Block.output ∉ l := by decide) : WithinPeriod s t :=
  ⟨changesOnly_mono h hl, congrArg Output.busLimit (h .output ho)⟩

theorem setDrive_within (s : State) (d : Drive) : WithinPeriod s (s.setDrive d) := .of_frame (setDrive_frame s d)

theorem refreshStatus_busLimit (s : State) : (refreshStatus s).output.busLimit = s.output.busLimit := by
  unfold refreshStatus
  split <;> rfl

theorem budget_within (s : State) : WithinPeriod s (budget s) := by
  refine ⟨changesOnly_mono (budget_frame s) (by decide), ?_⟩
  unfold budget
  split
  · rfl
  · exact refreshStatus_busLimit _

theorem endClog_within (s : State) : WithinPeriod s (endClog s) := by
  refine ⟨changesOnly_mono (endClog_frame s) (by decide), ?_⟩
  unfold endClog endCond
  split
  · rfl
  · split
    · exact (refreshStatus_busLimit _).trans (congrArg Output.busLimit (report_same .output _ _ _ _ (by decide)))
    · rfl

/-! ## Steps 1 to 6 of a control period (R33) -/

theorem refreshTarget_frame (s : State) : ChangesOnly [.drive, .reports, .lost] s (refreshTarget s) :=
  changesOnly_ite (fun _ => changesOnly_mono (setDrive_frame s _) (by decide))
    (fun _ => changesOnly_seq (setDrive_frame s _) (report_frame _ _ _ _))

/-- The target follows the level in use (R31); a changed one clears the clog counts (R45). -/
theorem refreshTarget_drive (s : State) :
    (refreshTarget s).drive =
      { s.drive with
        nTgt := (levelUsed s).speed
        levelSeen := levelInUse s
        suspect := if (levelUsed s).speed = s.drive.nTgt then s.drive.suspect else 0
        clear := if (levelUsed s).speed = s.drive.nTgt then s.drive.clear else 0 } := by
  unfold refreshTarget
  simp only [ite_not]
  split
  · rfl
  · exact report_same .drive _ _ _ _ (by decide)

theorem powerStep_frame (fresh : Bool) (s : State) :
    ChangesOnly [.drive, .watches, .reports, .lost] s (powerStep fresh s) :=
  changesOnly_ite (fun _ => changesOnly_seq (setDrive_frame s _) (publish_frame _ _ _)) (fun _ => changesOnly_refl _ s)

/-- Measured power is taken, and the stale count cleared, in a fresh period alone (R20, R39). -/
theorem powerStep_drive (fresh : Bool) (s : State) :
    (powerStep fresh s).drive =
      { s.drive with
        pMeas := if fresh then measuredPower (s.chan .packV).value (s.chan .packI).value else s.drive.pMeas
        stale := if fresh then 0 else s.drive.stale } := by
  cases fresh with
  | false => rfl
  | true => exact publish_frame .pMeas _ _ .drive (by decide)

theorem dutyStepNow_frame (fresh : Bool) (s : State) : ChangesOnly [.drive] s (dutyStepNow fresh s) :=
  changesOnly_ite (fun _ => setDrive_frame s _) (fun _ => changesOnly_refl _ s)

theorem regulator_within (fresh : Bool) (s : State) : WithinPeriod s (regulator fresh s) :=
  (WithinPeriod.of_frame (powerStep_frame fresh s)).trans <|
    (WithinPeriod.of_frame (setCeiling_frame (termsNow s) _)).trans <|
      (budget_within _).trans <| (setDrive_within _ _).trans <| .of_frame (dutyStepNow_frame fresh _)

/-- The drive's record after steps 1 to 6 on a state with its target taken (R33, R38 to R42, R45). -/
def regulatedDrive (fresh : Bool) (s : State) : Drive :=
  let p := if fresh then measuredPower (s.chan .packV).value (s.chan .packI).value else s.drive.pMeas
  let c := ceilingOf s.role (termsNow s) s.output.busLimit
  let e := ramp s.drive.nEff s.drive.nTgt
  { s.drive with
    nEff := e
    pMeas := p
    pCeil := c.1
    limit := c.2
    terms := termsNow s
    duty := if fresh then newDuty s.drive.duty (dutyStep p c.1 e s.drive.nMeas) else s.drive.duty
    stale := if fresh then 0 else s.drive.stale
    suspect := if e = s.drive.nTgt then s.drive.suspect else 0
    clear := if e = s.drive.nTgt then s.drive.clear else 0 }

theorem regulator_drive (fresh : Bool) (s : State) : (regulator fresh s).drive = regulatedDrive fresh s := by
  have hrole : (powerStep fresh s).role = s.role := same_of_frame (powerStep_frame fresh s) .role
  have hout : (powerStep fresh s).output = s.output := same_of_frame (powerStep_frame fresh s) .output
  have hceil : (budget (setCeiling (termsNow s) (powerStep fresh s))).drive =
      { (powerStep fresh s).drive with
        pCeil := (ceilingOf s.role (termsNow s) s.output.busLimit).1
        limit := (ceilingOf s.role (termsNow s) s.output.busLimit).2
        terms := termsNow s } := by
    rw [same_of_frame (budget_frame _) .drive]
    simp only [setCeiling, setDrive_drive, hrole, hout]
  unfold regulator
  generalize budget (setCeiling (termsNow s) (powerStep fresh s)) = v at hceil
  rw [powerStep_drive] at hceil
  cases fresh <;> simp [dutyStepNow, rampStep, regulatedDrive, hceil]

/-- The target taken and the posts for the next period made (R20, R31, R33). -/
def targeted (s : State) : State := postAll .drive [.packV, .packI] (refreshTarget s)

theorem targeted_frame (s : State) : ChangesOnly [.drive, .seq, .reports, .lost] s (targeted s) :=
  changesOnly_seq (refreshTarget_frame s) (postAll_frame .drive _ _)

theorem targeted_drive (s : State) : (targeted s).drive = (refreshTarget s).drive :=
  same_of_frame (postAll_frame .drive _ _) .drive

theorem targeted_chans (s : State) : (targeted s).seq.chans = s.seq.chans :=
  (postAll_chans .drive _ _).trans (congrArg Sequencer.chans (same_of_frame (refreshTarget_frame s) .seq))

/-- Whether the period is fresh stands at its start (R20). -/
theorem driveFresh_targeted (s : State) : driveFresh (targeted s) = driveFresh s :=
  driveFresh_congr (same_of_frame (targeted_frame s) .now) (targeted_chans s)

/-- The ceiling's terms stand at the period's start (R34 to R36). -/
theorem termsNow_targeted (s : State) : termsNow (targeted s) = termsNow s := by
  have hframe := targeted_frame s
  have hmode : (targeted s).drive.mode = s.drive.mode := by rw [targeted_drive, refreshTarget_drive]
  have hlevel : levelUsed (targeted s) = levelUsed s :=
    levelUsed_congr (same_of_frame hframe .role) (same_of_frame hframe .dockCfg) (same_of_frame hframe .driveCfg)
      (same_of_frame hframe .dirt) hmode
  exact termsNow_congr hlevel (same_of_frame hframe .role) (same_of_frame hframe .driveCfg) (same_of_frame hframe .pack)
    (same_of_frame hframe .supply) (same_of_frame hframe .conds)

/-- A control period up to the derated-out count (R33, R43). -/
def regulated (s : State) : State :=
  let v := regulator (driveFresh s) (targeted s)
  v.setDrive { v.drive with derated := deratedCount v }

theorem regulated_within (s : State) : WithinPeriod s (regulated s) :=
  (WithinPeriod.of_frame (targeted_frame s)).trans <| (regulator_within _ _).trans <| setDrive_within _ _

/-- The drive's record of a period started in `s` before its state's work (R33): but for the level last told and the
counts of R43 and R45, each field is computed from `s`. -/
theorem regulated_drive (s : State) :
    ∃ k der sus clr, (regulated s).drive =
      { regulatedDrive (driveFresh s) (s.setDrive { s.drive with nTgt := (levelUsed s).speed }) with
        levelSeen := k, derated := der, suspect := sus, clear := clr } := by
  have hrole : (targeted s).role = s.role := same_of_frame (targeted_frame s) .role
  have hout : (targeted s).output = s.output := same_of_frame (targeted_frame s) .output
  have hchan (c : Chan) : (targeted s).chan c = s.chan c := by simp only [State.chan, targeted_chans]
  have hterms : termsNow (s.setDrive { s.drive with nTgt := (levelUsed s).speed }) = termsNow s := rfl
  have hdrive : (targeted s).drive = _ := (targeted_drive s).trans (refreshTarget_drive s)
  refine ⟨levelInUse s, deratedCount (regulator (driveFresh s) (targeted s)),
    (regulatedDrive (driveFresh s) (targeted s)).suspect, (regulatedDrive (driveFresh s) (targeted s)).clear, ?_⟩
  simp only [regulated, setDrive_drive, regulator_drive]
  simp only [regulatedDrive, hterms, hrole, hout, hchan, hdrive, termsNow_targeted, setDrive_drive, setDrive_role,
    setDrive_output]
  rfl

/-- The derated-out count rises by one at most (R43). -/
theorem deratedCount_le (s : State) : deratedCount s ≤ s.drive.derated + 1 := by
  unfold deratedCount
  split
  · split <;> omega
  · omega

/-! ## The state's work and the stale count (R11, R13, R20, R45) -/

/-- What clog detection can do in a period (R46, R47): raise CLOG, end it, or count. -/
theorem clogWork_cases (s : State) :
    clogWork s = raiseClog s ∨ clogWork s = endClog s ∨
      ∃ sus clr, clogWork s = s.setDrive { s.drive with suspect := sus, clear := clr } := by
  unfold clogWork
  dsimp only
  split
  · split
    · exact .inr (.inr ⟨_, _, rfl⟩)
    · split
      · split
        · exact .inr (.inl rfl)
        · exact .inr (.inr ⟨_, _, rfl⟩)
      · exact .inr (.inr ⟨s.drive.suspect, s.drive.clear, rfl⟩)
  · split
    · split
      · exact .inl rfl
      · exact .inr (.inr ⟨_, _, rfl⟩)
    · split
      · exact .inr (.inr ⟨_, _, rfl⟩)
      · exact .inr (.inr ⟨s.drive.suspect, s.drive.clear, rfl⟩)

/-- Clog detection changes the clog counts of the drive and nothing else of it: the run goes on (R47). -/
theorem clogWork_spec (s : State) :
    WithinPeriod s (clogWork s) ∧
      ∃ sus clr, (clogWork s).drive = { s.drive with suspect := sus, clear := clr } := by
  rcases clogWork_cases s with h | h | ⟨sus, clr, h⟩ <;> rw [h]
  · exact ⟨.of_frame (raiseClog_frame s), _, _, raiseClog_drive s⟩
  · exact ⟨endClog_within s, _, _, endClog_drive s⟩
  · exact ⟨setDrive_within s _, _, _, rfl⟩

/-- A low-speed count below its limit is counted or cleared, and no stop is made (R13). -/
theorem lowSpeedWork_counts (s : State) (h : 5000 ≤ s.drive.nMeas ∨ s.drive.lowSpeed + 1 < 50) :
    ∃ low, lowSpeedWork s = s.setDrive { s.drive with lowSpeed := low } := by
  unfold lowSpeedWork
  split
  · refine ⟨s.drive.lowSpeed + 1, ?_⟩
    dsimp only
    rw [if_neg (by simp only [setDrive_drive]; omega)]
  · exact ⟨0, rfl⟩

theorem enterRegulate_within (s : State) : WithinPeriod s (enterRegulate s) := by
  refine (setDrive_within s { s.drive with state := .regulate }).trans ?_
  unfold enterRegulate
  dsimp only
  split
  · exact .of_frame (setDirt_frame _ _)
  · split
    · exact .of_frame (setCycle_frame _ _)
    · exact .of_frame (changesOnly_refl [] _)

theorem enterRegulate_drive (s : State) : (enterRegulate s).drive = { s.drive with state := .regulate } := by
  unfold enterRegulate
  dsimp only
  split
  · rfl
  · split <;> rfl

/-- The state in which a control period of a run that goes on ends (R11): REGULATE once n_eff has reached n_tgt. -/
def stateAfter (d : Drive) : DriveState :=
  if d.state = .spinUp then (if d.nEff = d.nTgt then .regulate else .spinUp) else .regulate

/-- Step 8 with no count at its limit (R33): the state, the low-speed count and the clog counts are all it changes of the
drive. -/
theorem stateWork_spec (fresh : Bool) (s : State) (hsw : s.drive.state.switching = true)
    (hlow : s.drive.state = .spinUp ∨ 5000 ≤ s.drive.nMeas ∨ s.drive.lowSpeed + 1 < 50) :
    WithinPeriod s (stateWork s.drive.state fresh s) ∧
      ∃ low sus clr, (stateWork s.drive.state fresh s).drive =
        { s.drive with state := stateAfter s.drive, lowSpeed := low, suspect := sus, clear := clr } := by
  have hself : WithinPeriod s s := .of_frame (changesOnly_refl [] s)
  cases hst : s.drive.state with
  | stopped => simp [hst, DriveState.switching] at hsw
  | priming => simp [hst, DriveState.switching] at hsw
  | coasting => simp [hst, DriveState.switching] at hsw
  | spinUp =>
    unfold stateWork stateAfter
    dsimp only
    rw [hst, if_pos rfl]
    split
    · exact ⟨enterRegulate_within s, _, _, _, enterRegulate_drive s⟩
    · exact ⟨hself, s.drive.lowSpeed, s.drive.suspect, s.drive.clear, by rw [← hst]⟩
  | regulate =>
    have hclog : WithinPeriod s (if clogRuns fresh s then clogWork s else s) ∧ ∃ sus clr,
        (if clogRuns fresh s then clogWork s else s).drive = { s.drive with suspect := sus, clear := clr } := by
      split
      · exact clogWork_spec s
      · exact ⟨hself, _, _, rfl⟩
    obtain ⟨hwithin, sus, clr, hdrive⟩ := hclog
    have hafter : stateAfter s.drive = s.drive.state := by simp [stateAfter, hst]
    unfold stateWork
    dsimp only
    generalize (if clogRuns fresh s then clogWork s else s) = v at hwithin hdrive
    obtain ⟨low, hv⟩ := lowSpeedWork_counts v (by rw [hdrive]; simpa [hst] using hlow)
    rw [hv, hafter]
    exact ⟨hwithin.trans (setDrive_within v _), low, sus, clr, by rw [setDrive_drive, hdrive]⟩

/-- A stale period is counted below its limit, a fresh one is not (R20, log entry 9). -/
theorem staleWork_spec (fresh : Bool) (s : State) (hsw : s.drive.state.switching = true) (h : s.drive.stale + 1 < 25) :
    WithinPeriod s (staleWork fresh s) ∧
      (staleWork fresh s).drive =
        { s.drive with stale := if fresh then s.drive.stale else s.drive.stale + 1 } := by
  cases fresh with
  | true => exact ⟨.of_frame (changesOnly_refl [] s), rfl⟩
  | false =>
    have heq : staleWork false s = s.setDrive { s.drive with stale := s.drive.stale + 1 } := by
      simp [staleWork, hsw, Nat.not_le.mpr h]
    rw [heq]
    exact ⟨setDrive_within s _, rfl⟩

/-! ## The control period -/

/-- With the derated-out count below its limit a period is its regulator's work, its state's and the stale count's (R33,
R43). -/
theorem regulatePeriod_eq (s : State) (h : s.drive.derated + 1 < 50) :
    regulatePeriod s = staleWork (driveFresh s) (stateWork s.drive.state (driveFresh s) (regulated s)) := by
  have hder : (regulated s).drive.derated ≤ s.drive.derated + 1 := by
    refine Nat.le_trans (deratedCount_le _) ?_
    rw [regulator_drive]
    simp [regulatedDrive, targeted_drive, refreshTarget_drive]
  have hfresh : driveFresh (postAll .drive [.packV, .packI] (refreshTarget s)) = driveFresh s := driveFresh_targeted s
  unfold regulatePeriod
  dsimp only
  rw [hfresh]
  exact if_neg (by show ¬ (regulated s).drive.derated ≥ 50; omega)

/-- The drive's record after a control period from `s` in SPIN_UP or REGULATE, of a run that goes on (R33, R38 to R42):
each field but the level last told and the counts of R13, R43 and R45. -/
def periodDrive (s : State) : Drive :=
  let r := regulatedDrive (driveFresh s) (s.setDrive { s.drive with nTgt := (levelUsed s).speed })
  { r with
    state := stateAfter r
    stale := if driveFresh s then 0 else s.drive.stale + 1 }

/-- A fresh period measures the power and steps the duty (R39, R41, R42). -/
theorem periodDrive_fresh (s : State) (h : driveFresh s = true) :
    (periodDrive s).pMeas = measuredPower (s.chan .packV).value (s.chan .packI).value ∧ (periodDrive s).stale = 0 ∧
      (periodDrive s).duty =
        newDuty s.drive.duty
          (dutyStep (periodDrive s).pMeas (periodDrive s).pCeil (periodDrive s).nEff s.drive.nMeas) := by
  unfold periodDrive regulatedDrive
  rw [h]
  exact ⟨rfl, rfl, rfl⟩

/-- A stale period holds both, and is counted (R20). -/
theorem periodDrive_stale (s : State) (h : driveFresh s = false) :
    (periodDrive s).pMeas = s.drive.pMeas ∧ (periodDrive s).stale = s.drive.stale + 1 ∧
      (periodDrive s).duty = s.drive.duty := by
  unfold periodDrive regulatedDrive
  rw [h]
  exact ⟨rfl, rfl, rfl⟩

/-- A control period in which no count reaches its limit: what it reaches, and the drive's record. -/
theorem regulatePeriod_spec (s : State) (hsw : s.drive.state.switching = true) (hder : s.drive.derated + 1 < 50)
    (hstale : s.drive.stale + 1 < 25)
    (hlow : s.drive.state = .spinUp ∨ 5000 ≤ s.drive.nMeas ∨ s.drive.lowSpeed + 1 < 50) :
    WithinPeriod s (regulatePeriod s) ∧
      ∃ k der low sus clr, (regulatePeriod s).drive =
        { periodDrive s with levelSeen := k, derated := der, lowSpeed := low, suspect := sus, clear := clr } := by
  obtain ⟨k, der, sus, clr, hdrive⟩ := regulated_drive s
  have hstate : (regulated s).drive.state = s.drive.state := by simp [hdrive, regulatedDrive]
  obtain ⟨hwork, low, sus', clr', hworkDrive⟩ := stateWork_spec (driveFresh s) (regulated s) (by rwa [hstate])
    (by simpa [hdrive, regulatedDrive] using hlow)
  rw [hstate] at hwork hworkDrive
  have hswitching : (stateWork s.drive.state (driveFresh s) (regulated s)).drive.state.switching = true := by
    rw [hworkDrive]
    unfold stateAfter
    dsimp only
    split
    · split <;> rfl
    · rfl
  have hcount : (stateWork s.drive.state (driveFresh s) (regulated s)).drive.stale + 1 < 25 := by
    rw [hworkDrive, hdrive]
    simp only [regulatedDrive, setDrive_drive]
    split <;> omega
  obtain ⟨hend, hendDrive⟩ := staleWork_spec (driveFresh s) _ hswitching hcount
  rw [regulatePeriod_eq s hder]
  refine ⟨(regulated_within s).trans (hwork.trans hend), k, der, low, sus', clr', ?_⟩
  rw [hendDrive, hworkDrive, hdrive]
  unfold periodDrive regulatedDrive
  cases driveFresh s <;> rfl

/-- The start of the period whose timer expires at `d`: time has run to it, and the timer is re-armed 2 ms on (R33). -/
def periodStart (d : Nat) (s : State) : State :=
  (s.setNow (s.atDeadline d)).setMotor { s.motor with period := some (d + 2000000) }

theorem periodStart_frame (d : Nat) (s : State) : ChangesOnly [.now, .motor] s (periodStart d s) :=
  changesOnly_seq (setNow_frame s _) (setMotor_frame _ _)

/-- An expiry of the control period timer in SPIN_UP or REGULATE is the period's work from its start (R33). -/
theorem exec_controlPeriod_switching (s : State) (d : Nat) (hd : s.motor.period = some d)
    (hsw : s.drive.state.switching = true) :
    exec .controlPeriod s = .next (regulatePeriod (periodStart d s)) := by
  have hexec : exec .controlPeriod s = .next (controlPeriodAt d (s.advanceTo d)) :=
    congrArg (fun o => Host.Outcome.next (onExpiry o controlPeriodAt s)) hd
  rw [hexec]
  unfold controlPeriodAt
  cases hst : s.drive.state with
  | spinUp => simp only [State.advanceTo, setMotor_drive, setNow_drive, hst]; rfl
  | regulate => simp only [State.advanceTo, setMotor_drive, setNow_drive, hst]; rfl
  | stopped => simp [hst, DriveState.switching] at hsw
  | priming => simp [hst, DriveState.switching] at hsw
  | coasting => simp [hst, DriveState.switching] at hsw

/-- Settles O9, by the work of a period from its start: the drive's record is `periodDrive`, field by field. -/
theorem controlPeriodRegulates : Obligations.ControlPeriodRegulates := by
  intro s d u n step hd hsw hder hstale hlow _
  obtain ⟨⟨hframe, hbus⟩, k, der, low, sus, clr, hdrive⟩ :=
    regulatePeriod_spec (periodStart d s) hsw hder hstale hlow
  refine ⟨_, exec_controlPeriod_switching s d hd hsw, ?_⟩
  have hnow : (regulatePeriod (periodStart d s)).now = u.now := same_of_frame hframe .now
  have hrole : (regulatePeriod (periodStart d s)).role = s.role := same_of_frame hframe .role
  have hmotor : (regulatePeriod (periodStart d s)).motor = { s.motor with period := some (d + 2000000) } :=
    same_of_frame hframe .motor
  have hceil : CeilingLeast (regulatePeriod (periodStart d s)) := by
    apply ceilingLeast_of_ceilingOf
    rw [hdrive, hrole, hbus]
    rfl
  have hstep (t : State) : step t = dutyStep t.drive.pMeas t.drive.pCeil t.drive.nEff s.drive.nMeas :=
    (dutyStep_eq _ _ _ _).symm
  refine ⟨hnow, by rw [hmotor], by rw [hdrive]; rfl, ?_, by rw [hdrive]; rfl, hceil, ?_, ?_, by rw [hdrive]; rfl,
    by rw [hdrive]; rfl, by rw [hdrive]; rfl, by rw [hdrive]; rfl, by rw [hdrive]; rfl, hmotor,
    changesOnly_seq (periodStart_frame d s) hframe⟩
  · rw [hdrive]
    exact ramp_eq _ _
  · intro hfresh
    rw [hstep, hdrive]
    exact periodDrive_fresh (periodStart d s) hfresh
  · intro hold
    rw [hdrive]
    exact periodDrive_stale (periodStart d s) hold

end Sys2Proof.Proofs.SuctionDemand
end
